-- ==== Sys2Proof/Word.lean ====
section
/-! DEFINITION. The word types of the machine: bytes and 16-bit words (00_scope.md R6, R8). -/

namespace Sys2Proof

/-- An 8-bit value: an 8-bit register, a byte of memory (00_scope.md R6). -/
abbrev Byte := BitVec 8

/-- A 16-bit value: PC, SP, a register pair, an address (00_scope.md R6). -/
abbrev Word := BitVec 16

end Sys2Proof
end

