-- ==== Sys2Proof/Machine/Bits.lean ====
section
/-! DEFINITION. Byte order, sign extension and bit helpers (00_scope.md R8): every place of the model that splits or
builds a word uses these. -/

namespace Sys2Proof

/-- `hi8 : lo8`, the 16-bit value `(hi8 << 8) | lo8` (00_scope.md R8). -/
def mkWord (hi lo : Byte) : Word := hi ++ lo

/-- `v[15:8]`. -/
def hiByte (v : Word) : Byte := v.extractLsb' 8 8

/-- `v[7:0]`. -/
def loByte (v : Word) : Byte := v.extractLsb' 0 8

/-- `sext_16(v8)` (00_scope.md R8). -/
def sext16 (v : Byte) : Word := v.signExtend 16

/-- `zext_16(v8)` (00_scope.md R8). -/
def zext16 (v : Byte) : Word := v.setWidth 16

/-- `v & ~(1 << b)` (42_rotate_shift_bit.md R523). -/
def clearBit (v : Byte) (b : Nat) : Byte := v &&& ~~~(1#8 <<< b)

/-- `v | (1 << b)` (42_rotate_shift_bit.md R525). -/
def setBitAt (v : Byte) (b : Nat) : Byte := v ||| (1#8 <<< b)

/-- A Boolean as a one-bit number, the carry-in of the adders. -/
def bitNat (b : Bool) : Nat := if b then 1 else 0

end Sys2Proof
end

