-- ==== Sys2Proof/Syntax.lean ====
section
/-! DEFINITION. The instruction set as syntax: one constructor of `Instr` per row of spec/opcode_table.json, and the
operand names of 30_encoding.md rules R303 to R307. -/

namespace Sys2Proof

/-- The seven 8-bit general registers (10_state.md R100). -/
inductive Reg8 where
  | b | c | d | e | h | l | a
  deriving DecidableEq, Repr

/-- What the r8 field names (30_encoding.md R303): a register, or the byte at address HL. -/
inductive Operand8 where
  | reg (r : Reg8)
  | atHl
  deriving DecidableEq, Repr

/-- The register pairs of LD rr,n16, INC rr, DEC rr and ADD HL,rr (30_encoding.md R304, first row). -/
inductive Pair where
  | bc | de | hl | sp
  deriving DecidableEq, Repr

/-- The register pairs of PUSH and POP (30_encoding.md R304, second row). -/
inductive StackPair where
  | bc | de | hl | af
  deriving DecidableEq, Repr

/-- The four conditions (30_encoding.md R305). -/
inductive Cond where
  | nz | z | nc | c
  deriving DecidableEq, Repr

/-- The ALU operations (30_encoding.md R306). -/
inductive AluOp where
  | add | adc | sub | sbc | and | xor | or | cp
  deriving DecidableEq, Repr

/-- The CB shift and rotate operations (30_encoding.md R307). -/
inductive RotOp where
  | rlc | rrc | rl | rr | sla | sra | swap | srl
  deriving DecidableEq, Repr

/-- The instructions: one constructor per row of the opcode table. `n : Byte` is an immediate n8 (for STOP, the second
byte it ignores), `e : Byte` the raw byte of a displacement e8, `n : Word` an immediate n16 (30_encoding.md R301, R308).
`prefixCb` is the row of the prefix byte 0xCB alone and `illegalXX` are the eleven undefined opcodes (R311).
The rows with an operand stand first, then the others, each in the table's order. -/
inductive Instr where
  | ldBcN16 (n : Word) -- 0x01 LD BC,n16 (R619)
  | ldBN8 (n : Byte) -- 0x06 LD B,n8 (R601)
  | ldAtN16Sp (n : Word) -- 0x08 LD (n16),SP (R620)
  | ldCN8 (n : Byte) -- 0x0E LD C,n8 (R601)
  | stop (n : Byte) -- 0x10 STOP (R652)
  | ldDeN16 (n : Word) -- 0x11 LD DE,n16 (R619)
  | ldDN8 (n : Byte) -- 0x16 LD D,n8 (R601)
  | jrE8 (e : Byte) -- 0x18 JR e8 (R553)
  | ldEN8 (n : Byte) -- 0x1E LD E,n8 (R601)
  | jrNzE8 (e : Byte) -- 0x20 JR NZ,e8 (R554)
  | ldHlN16 (n : Word) -- 0x21 LD HL,n16 (R619)
  | ldHN8 (n : Byte) -- 0x26 LD H,n8 (R601)
  | jrZE8 (e : Byte) -- 0x28 JR Z,e8 (R554)
  | ldLN8 (n : Byte) -- 0x2E LD L,n8 (R601)
  | jrNcE8 (e : Byte) -- 0x30 JR NC,e8 (R554)
  | ldSpN16 (n : Word) -- 0x31 LD SP,n16 (R619)
  | ldAtHlN8 (n : Byte) -- 0x36 LD (HL),n8 (R604)
  | jrCE8 (e : Byte) -- 0x38 JR C,e8 (R554)
  | ldAN8 (n : Byte) -- 0x3E LD A,n8 (R601)
  | jpNzN16 (n : Word) -- 0xC2 JP NZ,n16 (R551)
  | jpN16 (n : Word) -- 0xC3 JP n16 (R550)
  | callNzN16 (n : Word) -- 0xC4 CALL NZ,n16 (R556)
  | addAN8 (n : Byte) -- 0xC6 ADD A,n8 (R405)
  | jpZN16 (n : Word) -- 0xCA JP Z,n16 (R551)
  | callZN16 (n : Word) -- 0xCC CALL Z,n16 (R556)
  | callN16 (n : Word) -- 0xCD CALL n16 (R555)
  | adcAN8 (n : Byte) -- 0xCE ADC A,n8 (R408)
  | jpNcN16 (n : Word) -- 0xD2 JP NC,n16 (R551)
  | callNcN16 (n : Word) -- 0xD4 CALL NC,n16 (R556)
  | subAN8 (n : Byte) -- 0xD6 SUB A,n8 (R411)
  | jpCN16 (n : Word) -- 0xDA JP C,n16 (R551)
  | callCN16 (n : Word) -- 0xDC CALL C,n16 (R556)
  | sbcAN8 (n : Byte) -- 0xDE SBC A,n8 (R414)
  | ldhAtN8A (n : Byte) -- 0xE0 LDH (n8),A (R612)
  | andAN8 (n : Byte) -- 0xE6 AND A,n8 (R417)
  | addSpE8 (e : Byte) -- 0xE8 ADD SP,e8 (R453)
  | ldAtN16A (n : Word) -- 0xEA LD (n16),A (R610)
  | xorAN8 (n : Byte) -- 0xEE XOR A,n8 (R420)
  | ldhAAtN8 (n : Byte) -- 0xF0 LDH A,(n8) (R611)
  | orAN8 (n : Byte) -- 0xF6 OR A,n8 (R423)
  | ldHlSpE8 (e : Byte) -- 0xF8 LD HL,SP+e8 (R454)
  | ldAAtN16 (n : Word) -- 0xFA LD A,(n16) (R609)
  | cpAN8 (n : Byte) -- 0xFE CP A,n8 (R426)
  | nop -- 0x00 NOP (R650)
  | ldAtBcA -- 0x02 LD (BC),A (R607)
  | incBc -- 0x03 INC BC (R451)
  | incB -- 0x04 INC B (R427)
  | decB -- 0x05 DEC B (R429)
  | rlca -- 0x07 RLCA (R501)
  | addHlBc -- 0x09 ADD HL,BC (R450)
  | ldAAtBc -- 0x0A LD A,(BC) (R605)
  | decBc -- 0x0B DEC BC (R452)
  | incC -- 0x0C INC C (R427)
  | decC -- 0x0D DEC C (R429)
  | rrca -- 0x0F RRCA (R502)
  | ldAtDeA -- 0x12 LD (DE),A (R608)
  | incDe -- 0x13 INC DE (R451)
  | incD -- 0x14 INC D (R427)
  | decD -- 0x15 DEC D (R429)
  | rla -- 0x17 RLA (R503)
  | addHlDe -- 0x19 ADD HL,DE (R450)
  | ldAAtDe -- 0x1A LD A,(DE) (R606)
  | decDe -- 0x1B DEC DE (R452)
  | incE -- 0x1C INC E (R427)
  | decE -- 0x1D DEC E (R429)
  | rra -- 0x1F RRA (R504)
  | ldAtHlIncA -- 0x22 LD (HL+),A (R615)
  | incHl -- 0x23 INC HL (R451)
  | incH -- 0x24 INC H (R427)
  | decH -- 0x25 DEC H (R429)
  | daa -- 0x27 DAA (R431)
  | addHlHl -- 0x29 ADD HL,HL (R450)
  | ldAAtHlInc -- 0x2A LD A,(HL+) (R617)
  | decHl -- 0x2B DEC HL (R452)
  | incL -- 0x2C INC L (R427)
  | decL -- 0x2D DEC L (R429)
  | cpl -- 0x2F CPL (R432)
  | ldAtHlDecA -- 0x32 LD (HL-),A (R616)
  | incSp -- 0x33 INC SP (R451)
  | incAtHl -- 0x34 INC (HL) (R428)
  | decAtHl -- 0x35 DEC (HL) (R430)
  | scf -- 0x37 SCF (R433)
  | addHlSp -- 0x39 ADD HL,SP (R450)
  | ldAAtHlDec -- 0x3A LD A,(HL-) (R618)
  | decSp -- 0x3B DEC SP (R452)
  | incA -- 0x3C INC A (R427)
  | decA -- 0x3D DEC A (R429)
  | ccf -- 0x3F CCF (R434)
  | ldBB -- 0x40 LD B,B (R600)
  | ldBC -- 0x41 LD B,C (R600)
  | ldBD -- 0x42 LD B,D (R600)
  | ldBE -- 0x43 LD B,E (R600)
  | ldBH -- 0x44 LD B,H (R600)
  | ldBL -- 0x45 LD B,L (R600)
  | ldBAtHl -- 0x46 LD B,(HL) (R602)
  | ldBA -- 0x47 LD B,A (R600)
  | ldCB -- 0x48 LD C,B (R600)
  | ldCC -- 0x49 LD C,C (R600)
  | ldCD -- 0x4A LD C,D (R600)
  | ldCE -- 0x4B LD C,E (R600)
  | ldCH -- 0x4C LD C,H (R600)
  | ldCL -- 0x4D LD C,L (R600)
  | ldCAtHl -- 0x4E LD C,(HL) (R602)
  | ldCA -- 0x4F LD C,A (R600)
  | ldDB -- 0x50 LD D,B (R600)
  | ldDC -- 0x51 LD D,C (R600)
  | ldDD -- 0x52 LD D,D (R600)
  | ldDE -- 0x53 LD D,E (R600)
  | ldDH -- 0x54 LD D,H (R600)
  | ldDL -- 0x55 LD D,L (R600)
  | ldDAtHl -- 0x56 LD D,(HL) (R602)
  | ldDA -- 0x57 LD D,A (R600)
  | ldEB -- 0x58 LD E,B (R600)
  | ldEC -- 0x59 LD E,C (R600)
  | ldED -- 0x5A LD E,D (R600)
  | ldEE -- 0x5B LD E,E (R600)
  | ldEH -- 0x5C LD E,H (R600)
  | ldEL -- 0x5D LD E,L (R600)
  | ldEAtHl -- 0x5E LD E,(HL) (R602)
  | ldEA -- 0x5F LD E,A (R600)
  | ldHB -- 0x60 LD H,B (R600)
  | ldHC -- 0x61 LD H,C (R600)
  | ldHD -- 0x62 LD H,D (R600)
  | ldHE -- 0x63 LD H,E (R600)
  | ldHH -- 0x64 LD H,H (R600)
  | ldHL -- 0x65 LD H,L (R600)
  | ldHAtHl -- 0x66 LD H,(HL) (R602)
  | ldHA -- 0x67 LD H,A (R600)
  | ldLB -- 0x68 LD L,B (R600)
  | ldLC -- 0x69 LD L,C (R600)
  | ldLD -- 0x6A LD L,D (R600)
  | ldLE -- 0x6B LD L,E (R600)
  | ldLH -- 0x6C LD L,H (R600)
  | ldLL -- 0x6D LD L,L (R600)
  | ldLAtHl -- 0x6E LD L,(HL) (R602)
  | ldLA -- 0x6F LD L,A (R600)
  | ldAtHlB -- 0x70 LD (HL),B (R603)
  | ldAtHlC -- 0x71 LD (HL),C (R603)
  | ldAtHlD -- 0x72 LD (HL),D (R603)
  | ldAtHlE -- 0x73 LD (HL),E (R603)
  | ldAtHlH -- 0x74 LD (HL),H (R603)
  | ldAtHlL -- 0x75 LD (HL),L (R603)
  | halt -- 0x76 HALT (R651)
  | ldAtHlA -- 0x77 LD (HL),A (R603)
  | ldAB -- 0x78 LD A,B (R600)
  | ldAC -- 0x79 LD A,C (R600)
  | ldAD -- 0x7A LD A,D (R600)
  | ldAE -- 0x7B LD A,E (R600)
  | ldAH -- 0x7C LD A,H (R600)
  | ldAL -- 0x7D LD A,L (R600)
  | ldAAtHl -- 0x7E LD A,(HL) (R602)
  | ldAA -- 0x7F LD A,A (R600)
  | addAB -- 0x80 ADD A,B (R403)
  | addAC -- 0x81 ADD A,C (R403)
  | addAD -- 0x82 ADD A,D (R403)
  | addAE -- 0x83 ADD A,E (R403)
  | addAH -- 0x84 ADD A,H (R403)
  | addAL -- 0x85 ADD A,L (R403)
  | addAAtHl -- 0x86 ADD A,(HL) (R404)
  | addAA -- 0x87 ADD A,A (R403)
  | adcAB -- 0x88 ADC A,B (R406)
  | adcAC -- 0x89 ADC A,C (R406)
  | adcAD -- 0x8A ADC A,D (R406)
  | adcAE -- 0x8B ADC A,E (R406)
  | adcAH -- 0x8C ADC A,H (R406)
  | adcAL -- 0x8D ADC A,L (R406)
  | adcAAtHl -- 0x8E ADC A,(HL) (R407)
  | adcAA -- 0x8F ADC A,A (R406)
  | subAB -- 0x90 SUB A,B (R409)
  | subAC -- 0x91 SUB A,C (R409)
  | subAD -- 0x92 SUB A,D (R409)
  | subAE -- 0x93 SUB A,E (R409)
  | subAH -- 0x94 SUB A,H (R409)
  | subAL -- 0x95 SUB A,L (R409)
  | subAAtHl -- 0x96 SUB A,(HL) (R410)
  | subAA -- 0x97 SUB A,A (R409)
  | sbcAB -- 0x98 SBC A,B (R412)
  | sbcAC -- 0x99 SBC A,C (R412)
  | sbcAD -- 0x9A SBC A,D (R412)
  | sbcAE -- 0x9B SBC A,E (R412)
  | sbcAH -- 0x9C SBC A,H (R412)
  | sbcAL -- 0x9D SBC A,L (R412)
  | sbcAAtHl -- 0x9E SBC A,(HL) (R413)
  | sbcAA -- 0x9F SBC A,A (R412)
  | andAB -- 0xA0 AND A,B (R415)
  | andAC -- 0xA1 AND A,C (R415)
  | andAD -- 0xA2 AND A,D (R415)
  | andAE -- 0xA3 AND A,E (R415)
  | andAH -- 0xA4 AND A,H (R415)
  | andAL -- 0xA5 AND A,L (R415)
  | andAAtHl -- 0xA6 AND A,(HL) (R416)
  | andAA -- 0xA7 AND A,A (R415)
  | xorAB -- 0xA8 XOR A,B (R418)
  | xorAC -- 0xA9 XOR A,C (R418)
  | xorAD -- 0xAA XOR A,D (R418)
  | xorAE -- 0xAB XOR A,E (R418)
  | xorAH -- 0xAC XOR A,H (R418)
  | xorAL -- 0xAD XOR A,L (R418)
  | xorAAtHl -- 0xAE XOR A,(HL) (R419)
  | xorAA -- 0xAF XOR A,A (R418)
  | orAB -- 0xB0 OR A,B (R421)
  | orAC -- 0xB1 OR A,C (R421)
  | orAD -- 0xB2 OR A,D (R421)
  | orAE -- 0xB3 OR A,E (R421)
  | orAH -- 0xB4 OR A,H (R421)
  | orAL -- 0xB5 OR A,L (R421)
  | orAAtHl -- 0xB6 OR A,(HL) (R422)
  | orAA -- 0xB7 OR A,A (R421)
  | cpAB -- 0xB8 CP A,B (R424)
  | cpAC -- 0xB9 CP A,C (R424)
  | cpAD -- 0xBA CP A,D (R424)
  | cpAE -- 0xBB CP A,E (R424)
  | cpAH -- 0xBC CP A,H (R424)
  | cpAL -- 0xBD CP A,L (R424)
  | cpAAtHl -- 0xBE CP A,(HL) (R425)
  | cpAA -- 0xBF CP A,A (R424)
  | retNz -- 0xC0 RET NZ (R558)
  | popBc -- 0xC1 POP BC (R562)
  | pushBc -- 0xC5 PUSH BC (R561)
  | rst00 -- 0xC7 RST 0x00 (R559)
  | retZ -- 0xC8 RET Z (R558)
  | ret -- 0xC9 RET (R557)
  | prefixCb -- 0xCB PREFIX CB (R655)
  | rst08 -- 0xCF RST 0x08 (R559)
  | retNc -- 0xD0 RET NC (R558)
  | popDe -- 0xD1 POP DE (R562)
  | illegalD3 -- 0xD3 ILLEGAL_D3 (R656)
  | pushDe -- 0xD5 PUSH DE (R561)
  | rst10 -- 0xD7 RST 0x10 (R559)
  | retC -- 0xD8 RET C (R558)
  | reti -- 0xD9 RETI (R560)
  | illegalDB -- 0xDB ILLEGAL_DB (R656)
  | illegalDD -- 0xDD ILLEGAL_DD (R656)
  | rst18 -- 0xDF RST 0x18 (R559)
  | popHl -- 0xE1 POP HL (R562)
  | ldAtCA -- 0xE2 LD (C),A (R614)
  | illegalE3 -- 0xE3 ILLEGAL_E3 (R656)
  | illegalE4 -- 0xE4 ILLEGAL_E4 (R656)
  | pushHl -- 0xE5 PUSH HL (R561)
  | rst20 -- 0xE7 RST 0x20 (R559)
  | jpHl -- 0xE9 JP HL (R552)
  | illegalEB -- 0xEB ILLEGAL_EB (R656)
  | illegalEC -- 0xEC ILLEGAL_EC (R656)
  | illegalED -- 0xED ILLEGAL_ED (R656)
  | rst28 -- 0xEF RST 0x28 (R559)
  | popAf -- 0xF1 POP AF (R563)
  | ldAAtC -- 0xF2 LD A,(C) (R613)
  | di -- 0xF3 DI (R653)
  | illegalF4 -- 0xF4 ILLEGAL_F4 (R656)
  | pushAf -- 0xF5 PUSH AF (R561)
  | rst30 -- 0xF7 RST 0x30 (R559)
  | ldSpHl -- 0xF9 LD SP,HL (R621)
  | ei -- 0xFB EI (R654)
  | illegalFC -- 0xFC ILLEGAL_FC (R656)
  | illegalFD -- 0xFD ILLEGAL_FD (R656)
  | rst38 -- 0xFF RST 0x38 (R559)
  | rlcB -- 0xCB 0x00 RLC B (R505)
  | rlcC -- 0xCB 0x01 RLC C (R505)
  | rlcD -- 0xCB 0x02 RLC D (R505)
  | rlcE -- 0xCB 0x03 RLC E (R505)
  | rlcH -- 0xCB 0x04 RLC H (R505)
  | rlcL -- 0xCB 0x05 RLC L (R505)
  | rlcAtHl -- 0xCB 0x06 RLC (HL) (R506)
  | rlcA -- 0xCB 0x07 RLC A (R505)
  | rrcB -- 0xCB 0x08 RRC B (R507)
  | rrcC -- 0xCB 0x09 RRC C (R507)
  | rrcD -- 0xCB 0x0A RRC D (R507)
  | rrcE -- 0xCB 0x0B RRC E (R507)
  | rrcH -- 0xCB 0x0C RRC H (R507)
  | rrcL -- 0xCB 0x0D RRC L (R507)
  | rrcAtHl -- 0xCB 0x0E RRC (HL) (R508)
  | rrcA -- 0xCB 0x0F RRC A (R507)
  | rlB -- 0xCB 0x10 RL B (R509)
  | rlC -- 0xCB 0x11 RL C (R509)
  | rlD -- 0xCB 0x12 RL D (R509)
  | rlE -- 0xCB 0x13 RL E (R509)
  | rlH -- 0xCB 0x14 RL H (R509)
  | rlL -- 0xCB 0x15 RL L (R509)
  | rlAtHl -- 0xCB 0x16 RL (HL) (R510)
  | rlA -- 0xCB 0x17 RL A (R509)
  | rrB -- 0xCB 0x18 RR B (R511)
  | rrC -- 0xCB 0x19 RR C (R511)
  | rrD -- 0xCB 0x1A RR D (R511)
  | rrE -- 0xCB 0x1B RR E (R511)
  | rrH -- 0xCB 0x1C RR H (R511)
  | rrL -- 0xCB 0x1D RR L (R511)
  | rrAtHl -- 0xCB 0x1E RR (HL) (R512)
  | rrA -- 0xCB 0x1F RR A (R511)
  | slaB -- 0xCB 0x20 SLA B (R513)
  | slaC -- 0xCB 0x21 SLA C (R513)
  | slaD -- 0xCB 0x22 SLA D (R513)
  | slaE -- 0xCB 0x23 SLA E (R513)
  | slaH -- 0xCB 0x24 SLA H (R513)
  | slaL -- 0xCB 0x25 SLA L (R513)
  | slaAtHl -- 0xCB 0x26 SLA (HL) (R514)
  | slaA -- 0xCB 0x27 SLA A (R513)
  | sraB -- 0xCB 0x28 SRA B (R515)
  | sraC -- 0xCB 0x29 SRA C (R515)
  | sraD -- 0xCB 0x2A SRA D (R515)
  | sraE -- 0xCB 0x2B SRA E (R515)
  | sraH -- 0xCB 0x2C SRA H (R515)
  | sraL -- 0xCB 0x2D SRA L (R515)
  | sraAtHl -- 0xCB 0x2E SRA (HL) (R516)
  | sraA -- 0xCB 0x2F SRA A (R515)
  | swapB -- 0xCB 0x30 SWAP B (R517)
  | swapC -- 0xCB 0x31 SWAP C (R517)
  | swapD -- 0xCB 0x32 SWAP D (R517)
  | swapE -- 0xCB 0x33 SWAP E (R517)
  | swapH -- 0xCB 0x34 SWAP H (R517)
  | swapL -- 0xCB 0x35 SWAP L (R517)
  | swapAtHl -- 0xCB 0x36 SWAP (HL) (R518)
  | swapA -- 0xCB 0x37 SWAP A (R517)
  | srlB -- 0xCB 0x38 SRL B (R519)
  | srlC -- 0xCB 0x39 SRL C (R519)
  | srlD -- 0xCB 0x3A SRL D (R519)
  | srlE -- 0xCB 0x3B SRL E (R519)
  | srlH -- 0xCB 0x3C SRL H (R519)
  | srlL -- 0xCB 0x3D SRL L (R519)
  | srlAtHl -- 0xCB 0x3E SRL (HL) (R520)
  | srlA -- 0xCB 0x3F SRL A (R519)
  | bit0B -- 0xCB 0x40 BIT 0,B (R521)
  | bit0C -- 0xCB 0x41 BIT 0,C (R521)
  | bit0D -- 0xCB 0x42 BIT 0,D (R521)
  | bit0E -- 0xCB 0x43 BIT 0,E (R521)
  | bit0H -- 0xCB 0x44 BIT 0,H (R521)
  | bit0L -- 0xCB 0x45 BIT 0,L (R521)
  | bit0AtHl -- 0xCB 0x46 BIT 0,(HL) (R522)
  | bit0A -- 0xCB 0x47 BIT 0,A (R521)
  | bit1B -- 0xCB 0x48 BIT 1,B (R521)
  | bit1C -- 0xCB 0x49 BIT 1,C (R521)
  | bit1D -- 0xCB 0x4A BIT 1,D (R521)
  | bit1E -- 0xCB 0x4B BIT 1,E (R521)
  | bit1H -- 0xCB 0x4C BIT 1,H (R521)
  | bit1L -- 0xCB 0x4D BIT 1,L (R521)
  | bit1AtHl -- 0xCB 0x4E BIT 1,(HL) (R522)
  | bit1A -- 0xCB 0x4F BIT 1,A (R521)
  | bit2B -- 0xCB 0x50 BIT 2,B (R521)
  | bit2C -- 0xCB 0x51 BIT 2,C (R521)
  | bit2D -- 0xCB 0x52 BIT 2,D (R521)
  | bit2E -- 0xCB 0x53 BIT 2,E (R521)
  | bit2H -- 0xCB 0x54 BIT 2,H (R521)
  | bit2L -- 0xCB 0x55 BIT 2,L (R521)
  | bit2AtHl -- 0xCB 0x56 BIT 2,(HL) (R522)
  | bit2A -- 0xCB 0x57 BIT 2,A (R521)
  | bit3B -- 0xCB 0x58 BIT 3,B (R521)
  | bit3C -- 0xCB 0x59 BIT 3,C (R521)
  | bit3D -- 0xCB 0x5A BIT 3,D (R521)
  | bit3E -- 0xCB 0x5B BIT 3,E (R521)
  | bit3H -- 0xCB 0x5C BIT 3,H (R521)
  | bit3L -- 0xCB 0x5D BIT 3,L (R521)
  | bit3AtHl -- 0xCB 0x5E BIT 3,(HL) (R522)
  | bit3A -- 0xCB 0x5F BIT 3,A (R521)
  | bit4B -- 0xCB 0x60 BIT 4,B (R521)
  | bit4C -- 0xCB 0x61 BIT 4,C (R521)
  | bit4D -- 0xCB 0x62 BIT 4,D (R521)
  | bit4E -- 0xCB 0x63 BIT 4,E (R521)
  | bit4H -- 0xCB 0x64 BIT 4,H (R521)
  | bit4L -- 0xCB 0x65 BIT 4,L (R521)
  | bit4AtHl -- 0xCB 0x66 BIT 4,(HL) (R522)
  | bit4A -- 0xCB 0x67 BIT 4,A (R521)
  | bit5B -- 0xCB 0x68 BIT 5,B (R521)
  | bit5C -- 0xCB 0x69 BIT 5,C (R521)
  | bit5D -- 0xCB 0x6A BIT 5,D (R521)
  | bit5E -- 0xCB 0x6B BIT 5,E (R521)
  | bit5H -- 0xCB 0x6C BIT 5,H (R521)
  | bit5L -- 0xCB 0x6D BIT 5,L (R521)
  | bit5AtHl -- 0xCB 0x6E BIT 5,(HL) (R522)
  | bit5A -- 0xCB 0x6F BIT 5,A (R521)
  | bit6B -- 0xCB 0x70 BIT 6,B (R521)
  | bit6C -- 0xCB 0x71 BIT 6,C (R521)
  | bit6D -- 0xCB 0x72 BIT 6,D (R521)
  | bit6E -- 0xCB 0x73 BIT 6,E (R521)
  | bit6H -- 0xCB 0x74 BIT 6,H (R521)
  | bit6L -- 0xCB 0x75 BIT 6,L (R521)
  | bit6AtHl -- 0xCB 0x76 BIT 6,(HL) (R522)
  | bit6A -- 0xCB 0x77 BIT 6,A (R521)
  | bit7B -- 0xCB 0x78 BIT 7,B (R521)
  | bit7C -- 0xCB 0x79 BIT 7,C (R521)
  | bit7D -- 0xCB 0x7A BIT 7,D (R521)
  | bit7E -- 0xCB 0x7B BIT 7,E (R521)
  | bit7H -- 0xCB 0x7C BIT 7,H (R521)
  | bit7L -- 0xCB 0x7D BIT 7,L (R521)
  | bit7AtHl -- 0xCB 0x7E BIT 7,(HL) (R522)
  | bit7A -- 0xCB 0x7F BIT 7,A (R521)
  | res0B -- 0xCB 0x80 RES 0,B (R523)
  | res0C -- 0xCB 0x81 RES 0,C (R523)
  | res0D -- 0xCB 0x82 RES 0,D (R523)
  | res0E -- 0xCB 0x83 RES 0,E (R523)
  | res0H -- 0xCB 0x84 RES 0,H (R523)
  | res0L -- 0xCB 0x85 RES 0,L (R523)
  | res0AtHl -- 0xCB 0x86 RES 0,(HL) (R524)
  | res0A -- 0xCB 0x87 RES 0,A (R523)
  | res1B -- 0xCB 0x88 RES 1,B (R523)
  | res1C -- 0xCB 0x89 RES 1,C (R523)
  | res1D -- 0xCB 0x8A RES 1,D (R523)
  | res1E -- 0xCB 0x8B RES 1,E (R523)
  | res1H -- 0xCB 0x8C RES 1,H (R523)
  | res1L -- 0xCB 0x8D RES 1,L (R523)
  | res1AtHl -- 0xCB 0x8E RES 1,(HL) (R524)
  | res1A -- 0xCB 0x8F RES 1,A (R523)
  | res2B -- 0xCB 0x90 RES 2,B (R523)
  | res2C -- 0xCB 0x91 RES 2,C (R523)
  | res2D -- 0xCB 0x92 RES 2,D (R523)
  | res2E -- 0xCB 0x93 RES 2,E (R523)
  | res2H -- 0xCB 0x94 RES 2,H (R523)
  | res2L -- 0xCB 0x95 RES 2,L (R523)
  | res2AtHl -- 0xCB 0x96 RES 2,(HL) (R524)
  | res2A -- 0xCB 0x97 RES 2,A (R523)
  | res3B -- 0xCB 0x98 RES 3,B (R523)
  | res3C -- 0xCB 0x99 RES 3,C (R523)
  | res3D -- 0xCB 0x9A RES 3,D (R523)
  | res3E -- 0xCB 0x9B RES 3,E (R523)
  | res3H -- 0xCB 0x9C RES 3,H (R523)
  | res3L -- 0xCB 0x9D RES 3,L (R523)
  | res3AtHl -- 0xCB 0x9E RES 3,(HL) (R524)
  | res3A -- 0xCB 0x9F RES 3,A (R523)
  | res4B -- 0xCB 0xA0 RES 4,B (R523)
  | res4C -- 0xCB 0xA1 RES 4,C (R523)
  | res4D -- 0xCB 0xA2 RES 4,D (R523)
  | res4E -- 0xCB 0xA3 RES 4,E (R523)
  | res4H -- 0xCB 0xA4 RES 4,H (R523)
  | res4L -- 0xCB 0xA5 RES 4,L (R523)
  | res4AtHl -- 0xCB 0xA6 RES 4,(HL) (R524)
  | res4A -- 0xCB 0xA7 RES 4,A (R523)
  | res5B -- 0xCB 0xA8 RES 5,B (R523)
  | res5C -- 0xCB 0xA9 RES 5,C (R523)
  | res5D -- 0xCB 0xAA RES 5,D (R523)
  | res5E -- 0xCB 0xAB RES 5,E (R523)
  | res5H -- 0xCB 0xAC RES 5,H (R523)
  | res5L -- 0xCB 0xAD RES 5,L (R523)
  | res5AtHl -- 0xCB 0xAE RES 5,(HL) (R524)
  | res5A -- 0xCB 0xAF RES 5,A (R523)
  | res6B -- 0xCB 0xB0 RES 6,B (R523)
  | res6C -- 0xCB 0xB1 RES 6,C (R523)
  | res6D -- 0xCB 0xB2 RES 6,D (R523)
  | res6E -- 0xCB 0xB3 RES 6,E (R523)
  | res6H -- 0xCB 0xB4 RES 6,H (R523)
  | res6L -- 0xCB 0xB5 RES 6,L (R523)
  | res6AtHl -- 0xCB 0xB6 RES 6,(HL) (R524)
  | res6A -- 0xCB 0xB7 RES 6,A (R523)
  | res7B -- 0xCB 0xB8 RES 7,B (R523)
  | res7C -- 0xCB 0xB9 RES 7,C (R523)
  | res7D -- 0xCB 0xBA RES 7,D (R523)
  | res7E -- 0xCB 0xBB RES 7,E (R523)
  | res7H -- 0xCB 0xBC RES 7,H (R523)
  | res7L -- 0xCB 0xBD RES 7,L (R523)
  | res7AtHl -- 0xCB 0xBE RES 7,(HL) (R524)
  | res7A -- 0xCB 0xBF RES 7,A (R523)
  | set0B -- 0xCB 0xC0 SET 0,B (R525)
  | set0C -- 0xCB 0xC1 SET 0,C (R525)
  | set0D -- 0xCB 0xC2 SET 0,D (R525)
  | set0E -- 0xCB 0xC3 SET 0,E (R525)
  | set0H -- 0xCB 0xC4 SET 0,H (R525)
  | set0L -- 0xCB 0xC5 SET 0,L (R525)
  | set0AtHl -- 0xCB 0xC6 SET 0,(HL) (R526)
  | set0A -- 0xCB 0xC7 SET 0,A (R525)
  | set1B -- 0xCB 0xC8 SET 1,B (R525)
  | set1C -- 0xCB 0xC9 SET 1,C (R525)
  | set1D -- 0xCB 0xCA SET 1,D (R525)
  | set1E -- 0xCB 0xCB SET 1,E (R525)
  | set1H -- 0xCB 0xCC SET 1,H (R525)
  | set1L -- 0xCB 0xCD SET 1,L (R525)
  | set1AtHl -- 0xCB 0xCE SET 1,(HL) (R526)
  | set1A -- 0xCB 0xCF SET 1,A (R525)
  | set2B -- 0xCB 0xD0 SET 2,B (R525)
  | set2C -- 0xCB 0xD1 SET 2,C (R525)
  | set2D -- 0xCB 0xD2 SET 2,D (R525)
  | set2E -- 0xCB 0xD3 SET 2,E (R525)
  | set2H -- 0xCB 0xD4 SET 2,H (R525)
  | set2L -- 0xCB 0xD5 SET 2,L (R525)
  | set2AtHl -- 0xCB 0xD6 SET 2,(HL) (R526)
  | set2A -- 0xCB 0xD7 SET 2,A (R525)
  | set3B -- 0xCB 0xD8 SET 3,B (R525)
  | set3C -- 0xCB 0xD9 SET 3,C (R525)
  | set3D -- 0xCB 0xDA SET 3,D (R525)
  | set3E -- 0xCB 0xDB SET 3,E (R525)
  | set3H -- 0xCB 0xDC SET 3,H (R525)
  | set3L -- 0xCB 0xDD SET 3,L (R525)
  | set3AtHl -- 0xCB 0xDE SET 3,(HL) (R526)
  | set3A -- 0xCB 0xDF SET 3,A (R525)
  | set4B -- 0xCB 0xE0 SET 4,B (R525)
  | set4C -- 0xCB 0xE1 SET 4,C (R525)
  | set4D -- 0xCB 0xE2 SET 4,D (R525)
  | set4E -- 0xCB 0xE3 SET 4,E (R525)
  | set4H -- 0xCB 0xE4 SET 4,H (R525)
  | set4L -- 0xCB 0xE5 SET 4,L (R525)
  | set4AtHl -- 0xCB 0xE6 SET 4,(HL) (R526)
  | set4A -- 0xCB 0xE7 SET 4,A (R525)
  | set5B -- 0xCB 0xE8 SET 5,B (R525)
  | set5C -- 0xCB 0xE9 SET 5,C (R525)
  | set5D -- 0xCB 0xEA SET 5,D (R525)
  | set5E -- 0xCB 0xEB SET 5,E (R525)
  | set5H -- 0xCB 0xEC SET 5,H (R525)
  | set5L -- 0xCB 0xED SET 5,L (R525)
  | set5AtHl -- 0xCB 0xEE SET 5,(HL) (R526)
  | set5A -- 0xCB 0xEF SET 5,A (R525)
  | set6B -- 0xCB 0xF0 SET 6,B (R525)
  | set6C -- 0xCB 0xF1 SET 6,C (R525)
  | set6D -- 0xCB 0xF2 SET 6,D (R525)
  | set6E -- 0xCB 0xF3 SET 6,E (R525)
  | set6H -- 0xCB 0xF4 SET 6,H (R525)
  | set6L -- 0xCB 0xF5 SET 6,L (R525)
  | set6AtHl -- 0xCB 0xF6 SET 6,(HL) (R526)
  | set6A -- 0xCB 0xF7 SET 6,A (R525)
  | set7B -- 0xCB 0xF8 SET 7,B (R525)
  | set7C -- 0xCB 0xF9 SET 7,C (R525)
  | set7D -- 0xCB 0xFA SET 7,D (R525)
  | set7E -- 0xCB 0xFB SET 7,E (R525)
  | set7H -- 0xCB 0xFC SET 7,H (R525)
  | set7L -- 0xCB 0xFD SET 7,L (R525)
  | set7AtHl -- 0xCB 0xFE SET 7,(HL) (R526)
  | set7A -- 0xCB 0xFF SET 7,A (R525)
  deriving DecidableEq, Repr

end Sys2Proof
end

