-- ==== Sys2Proof/WellFormed.lean ====
section
/-! DEFINITION. Which terms of `Instr` are instructions. Operand widths are in the types, so the one check left is that
the instruction is complete. -/

namespace Sys2Proof

/-- An instruction is complete: the prefix byte 0xCB alone is not one, since the prefix and its second byte are one
instruction of length 2 (30_encoding.md R313, 45_system.md R655). -/
abbrev Instr.WellFormed (i : Instr) : Prop := i ≠ .prefixCb

/-- The undefined opcodes: rows of the table that spell no instruction and raise the fault (30_encoding.md R311,
45_system.md R656). -/
def Instr.undefinedOpcode? : Instr → Option Byte
  | .illegalD3 => some 0xD3#8
  | .illegalDB => some 0xDB#8
  | .illegalDD => some 0xDD#8
  | .illegalE3 => some 0xE3#8
  | .illegalE4 => some 0xE4#8
  | .illegalEB => some 0xEB#8
  | .illegalEC => some 0xEC#8
  | .illegalED => some 0xED#8
  | .illegalF4 => some 0xF4#8
  | .illegalFC => some 0xFC#8
  | .illegalFD => some 0xFD#8
  | _ => none

end Sys2Proof
end

