-- ==== Sys2Proof/Config.lean ====
section
/-! DEFINITION. What the spec leaves to the one who launches the machine: the named parameters of 00_scope.md R7. The
parameters that a rule reads are plain data kept in `State.params`, so that a statement about every state is a statement
about every value of them. The two that no rule of the core reads are constants without a body. -/

namespace Sys2Proof

/-- The readings of "setting the VBlank IF bit if enabled" (parameter VBLANK_REQUEST_GATE; 60_exceptions.md R733, D10). -/
inductive VblankGate where
  | always | ieBit0 | lcdcBit7
  deriving DecidableEq, Repr

/-- The two launch states (parameter LAUNCH; 70_reset_and_hazards.md R800, R802, D47). -/
inductive LaunchMode where
  | powerOn | postBoot
  deriving DecidableEq, Repr

/-- The launch parameters that rules of the core read (00_scope.md R7). No step changes them. -/
structure Params where
  /-- MULTICART: header types 0x01 to 0x03 select MBC1-multicart (20_memory.md R240). -/
  multicart : Bool
  /-- VBLANK_REQUEST_GATE (60_exceptions.md R733). -/
  vblankGate : VblankGate
  /-- UNMAPPED_READ: what unmapped I/O and 0xFF50 read as (20_memory.md R203, D14). -/
  unmappedRead : Byte
  /-- LAUNCH (70_reset_and_hazards.md R800, R802). -/
  launch : LaunchMode
  deriving DecidableEq, Repr

/-- The defaults of 00_scope.md R7. DESIGN CHOICE (log entries 2 and 3): R7 gives MULTICART and LAUNCH no default;
MULTICART is false here as in 95_test_vectors.md section 0, and LAUNCH is POWER_ON, the launch of R130's reset values.
Unsafe where a statement rests on them: none does but those about `State.reset`. -/
def Params.default : Params where
  multicart := false
  vblankGate := .ieBit0
  unmappedRead := 0xFF#8
  launch := .powerOn

/-- CLOCK_HZ: no rule depends on it and the spec fixes no number (70_reset_and_hazards.md R831, D46; log entry 12). -/
opaque Config.clockHz : Nat

/-- SHADE_RGB: the four colour constants the host maps shades to; the spec gives no colour (60_exceptions.md R737, D19;
log entry 12). -/
opaque Config.shadeRgb : BitVec 2 → BitVec 24

end Sys2Proof
end

