-- ==== Sys2Proof/Machine/Memory.lean ====
section
/-! DEFINITION. One array of the machine as plain data: a list of (place, value) pairs in one canonical form, places
strictly rising and no value 0, since an unlisted place reads 0 (10_state.md R111: the arrays are zero at reset). -/

namespace Sys2Proof.Machine

/-- An array of `w`-bit values. With `w = 8` it is a list of `Host.Cell`. -/
abbrev Memory (w : Nat) := List (Nat × BitVec w)

/-- What a place that is not listed reads as (10_state.md R111, D28; log entry 5). -/
def Memory.unlisted (w : Nat) : BitVec w := 0#w

/-- The value at place `a`. -/
def Memory.read {w : Nat} : Memory w → Nat → BitVec w
  | [], _ => Memory.unlisted w
  | (k, v) :: m, a => if k = a then v else Memory.read m a

/-- The array without an entry for place `a`. -/
def Memory.erase {w : Nat} : Memory w → Nat → Memory w
  | [], _ => []
  | (k, v) :: m, a => if k = a then Memory.erase m a else (k, v) :: Memory.erase m a

/-- The array with an entry `(a, v)` put before the first larger place. -/
def Memory.insert {w : Nat} : Memory w → Nat → BitVec w → Memory w
  | [], a, v => [(a, v)]
  | (k, x) :: m, a, v => if a < k then (a, v) :: (k, x) :: m else (k, x) :: Memory.insert m a v

/-- The array with `v` at place `a`; writing the unlisted value removes the entry, so the form stays canonical. -/
def Memory.write {w : Nat} (m : Memory w) (a : Nat) (v : BitVec w) : Memory w :=
  if v = Memory.unlisted w then Memory.erase m a else Memory.insert (Memory.erase m a) a v

/-- Every place from `lo` on, strictly rising, below `size`, and no value the unlisted one. -/
def Memory.wfFrom {w : Nat} (size : Nat) : Nat → Memory w → Bool
  | _, [] => true
  | lo, (k, v) :: m =>
    decide (lo ≤ k) && decide (k < size) && decide (v ≠ Memory.unlisted w) && Memory.wfFrom size (k + 1) m

/-- The canonical form of an array of `size` places. -/
def Memory.wf {w : Nat} (size : Nat) (m : Memory w) : Bool := Memory.wfFrom size 0 m

/-- The array that holds a list of values from place `k` on. -/
def Memory.ofListFrom {w : Nat} : Nat → List (BitVec w) → Memory w
  | _, [] => []
  | k, v :: vs =>
    if v = Memory.unlisted w then Memory.ofListFrom (k + 1) vs else (k, v) :: Memory.ofListFrom (k + 1) vs

/-- The array that holds a list of values from place 0 on: a loaded image. -/
def Memory.ofList {w : Nat} (vs : List (BitVec w)) : Memory w := Memory.ofListFrom 0 vs

end Sys2Proof.Machine
end

