-- ==== Sys2Proof/Machine/State.lean ====
section
/-! DEFINITION. The state of the machine: every piece of state 10_state.md gives it, as plain data, and the state after
reset. -/

namespace Sys2Proof.Machine

/-- Fault kinds, the value recorded in `Cpu.fault` (60_exceptions.md R700). A step never answers with the host's fault
outcome: the spec gives an undefined opcode a next state, with this record set and the machine unable to go on (R701;
log entry 6), which is safe, since the record is there for every claim to see. -/
inductive Fault where
  /-- Raised by the meanings of the eleven undefined base opcodes, with the opcode fetched (45_system.md R656). Safe. -/
  | unhandledOpcode (op : Byte)
  /-- The source's range check. No rule can raise it (60_exceptions.md R702) and no definition of this model does. Safe. -/
  | rangeViolation
  deriving DecidableEq, Repr

/-- Reasons to decline. Only `launch` declines; no instruction does. -/
inductive Refusal where
  /-- Raised by an arm of `exec` whose instruction has no meaning yet. Safe. No arm raises it. -/
  | notModelled (mnemonic : String)
  /-- Raised by `launch`: the ROM's length is not a multiple of 0x4000 or is below 0x8000 (70_reset_and_hazards.md
  R801(a)). Safe: no run exists. -/
  | romLength
  /-- Raised by `launch`: `rom[0x147]` is no supported type (R801(b), 20_memory.md R240). Safe: no run exists. -/
  | unsupportedMbc
  /-- Raised by `launch`: POWER_ON without a 256-byte boot ROM (R801(c)). Safe: no run exists. -/
  | bootRomLength
  /-- Raised by `launch`: the host could not load the cartridge image or the boot ROM, whatever the launch mode (R801(d),
  D34). Safe: no run exists. -/
  | loadFailure
  deriving DecidableEq, Repr

/-- The flags: four Booleans (10_state.md R103, R104). -/
structure Flags where
  z : Bool
  n : Bool
  h : Bool
  c : Bool
  deriving DecidableEq, Repr

/-- The run state (10_state.md R109). -/
inductive RunState where
  | running | halted | stopped
  deriving DecidableEq, Repr

/-- The processor's own state (10_state.md R100 to R110). -/
structure Cpu where
  a : Byte
  b : Byte
  c : Byte
  d : Byte
  e : Byte
  h : Byte
  l : Byte
  f : Flags
  sp : Word
  pc : Word
  /-- The interrupt master enable (R107). -/
  ime : Bool
  /-- The delayed EI latch (R108). -/
  eiPending : Bool
  runState : RunState
  /-- The record of a fatal error (R110). -/
  fault : Option Fault
  deriving DecidableEq, Repr

/-- The timer: DIV, TIMA, TMA, TAC and the two accumulators (10_state.md R114 to R117, R125). -/
structure Timer where
  div : Byte
  tima : Byte
  tma : Byte
  tac : Byte
  divAcc : Nat
  timaAcc : Nat
  deriving DecidableEq, Repr

/-- The PPU modes (10_state.md R126). -/
inductive PpuMode where
  | oamScan | pixelTransfer | hblank | vblank
  deriving DecidableEq, Repr

/-- The PPU (10_state.md R118 to R122, R126, R127). `fb` holds the shade of pixel (x, y) at place `256 * y + x`. -/
structure Ppu where
  lcdc : Byte
  statSel : Byte
  scy : Byte
  scx : Byte
  ly : Byte
  bgp : Byte
  mode : PpuMode
  acc : Nat
  fb : Memory 2
  deriving DecidableEq, Repr

/-- The joypad: the select bits of P1 and the two nibbles, 0 = pressed (10_state.md R123, R128). -/
structure Joypad where
  select : Byte
  dirNibble : BitVec 4
  actNibble : BitVec 4
  deriving DecidableEq, Repr

/-- The cartridge controllers (20_memory.md R240). -/
inductive MbcKind where
  | noMbc | mbc1 | mbc1Multicart
  deriving DecidableEq, Repr

/-- The MBC: its variant, fixed at launch, and MBC1's four registers (10_state.md R129). -/
structure Mbc where
  kind : MbcKind
  bankLo : BitVec 5
  bankHi : BitVec 2
  mode : BitVec 1
  ramEnable : Bool
  deriving DecidableEq, Repr

/-- The byte arrays (10_state.md R111). `romLen` is len(rom) (20_memory.md R243). -/
structure Arrays where
  bootrom : Memory 8
  rom : Memory 8
  romLen : Nat
  vram : Memory 8
  wram : Memory 8
  oam : Memory 8
  hram : Memory 8
  extram : Memory 8
  deriving DecidableEq, Repr

/-- The whole machine. -/
structure State where
  cpu : Cpu
  /-- IF, five bits (10_state.md R112). -/
  ifReg : BitVec 5
  /-- IE (10_state.md R113). -/
  ie : Byte
  timer : Timer
  ppu : Ppu
  joypad : Joypad
  mbc : Mbc
  arrays : Arrays
  /-- The boot ROM is mapped (10_state.md R124). -/
  bootEnabled : Bool
  /-- The launch parameters (00_scope.md R7); no step changes them. -/
  params : Params
  deriving DecidableEq, Repr

/-- All flags clear. -/
def Flags.clear : Flags := ⟨false, false, false, false⟩

/-- The state after a power-on reset with the given images, MBC variant and parameters: R130's table
(70_reset_and_hazards.md R800). -/
def State.powerOn (bootrom rom : Memory 8) (romLen : Nat) (kind : MbcKind) (p : Params) : State where
  cpu := {
    a := 0#8, b := 0#8, c := 0#8, d := 0#8, e := 0#8, h := 0#8, l := 0#8
    f := Flags.clear, sp := 0#16, pc := 0#16
    ime := false, eiPending := false, runState := .running, fault := none }
  ifReg := 0#5
  ie := 0#8
  timer := { div := 0#8, tima := 0#8, tma := 0#8, tac := 0#8, divAcc := 0, timaAcc := 0 }
  ppu := {
    lcdc := 0#8, statSel := 0#8, scy := 0#8, scx := 0#8, ly := 0#8, bgp := 0#8
    mode := .oamScan, acc := 0, fb := [] }
  joypad := { select := 0#8, dirNibble := 0xF#4, actNibble := 0xF#4 }
  mbc := { kind := kind, bankLo := 0#5, bankHi := 0#2, mode := 0#1, ramEnable := false }
  arrays := {
    bootrom := bootrom, rom := rom, romLen := romLen
    vram := [], wram := [], oam := [], hram := [], extram := [] }
  bootEnabled := true
  params := p

/-- The machine right after reset (10_state.md R130). The two images are launch parameters that the spec leaves open
(D37, R7): here nothing is listed in either, so both read 0, and the ROM has the smallest legal length. DESIGN CHOICE, log
entries 1, 2 and 3, unsafe: a claim about runs from this state is about these images. -/
def State.reset : State := State.powerOn [] [] 0x8000 .noMbc Params.default

end Sys2Proof.Machine
end

