-- ==== Sys2Proof/Machine/Flags.lean ====
section
/-! DEFINITION. The flag byte, the conditions, and every result and flag computation of the instructions: operands are
taken to natural numbers, the exact result is computed, and it is narrowed at the end (00_scope.md R10). -/

namespace Sys2Proof.Machine

/-- F as a byte (10_state.md R103). -/
def packFlags (f : Flags) : Byte :=
  (if f.z then 0x80#8 else 0#8) ||| (if f.n then 0x40#8 else 0#8) |||
  (if f.h then 0x20#8 else 0#8) ||| (if f.c then 0x10#8 else 0#8)

/-- The flags a byte holds (10_state.md R103). -/
def unpackFlags (v : Byte) : Flags := ⟨v.getLsbD 7, v.getLsbD 6, v.getLsbD 5, v.getLsbD 4⟩

/-- `cond(cc)` (30_encoding.md R305). -/
def condHolds (cc : Cond) (f : Flags) : Bool :=
  match cc with
  | .nz => !f.z
  | .z => f.z
  | .nc => !f.c
  | .c => f.c

/-- A result with the four flags that go with it. -/
structure Res8 where
  res : Byte
  flags : Flags
  deriving DecidableEq, Repr

/-- `add8(a, b, cin)` (40_alu8.md R401). -/
def add8 (a b : Byte) (cin : Bool) : Res8 :=
  let t := a.toNat + b.toNat + bitNat cin
  { res := BitVec.ofNat 8 t
    flags := {
      z := decide (t % 256 = 0)
      n := false
      h := decide (a.toNat % 16 + b.toNat % 16 + bitNat cin > 0xF)
      c := decide (t > 0xFF) } }

/-- `sub8(a, b, cin)` (40_alu8.md R402). -/
def sub8 (a b : Byte) (cin : Bool) : Res8 :=
  let res := BitVec.ofNat 8 (a.toNat + 512 - b.toNat - bitNat cin)
  { res := res
    flags := {
      z := decide (res = 0#8)
      n := true
      h := decide (a.toNat % 16 < b.toNat % 16 + bitNat cin)
      c := decide (a.toNat < b.toNat + bitNat cin) } }

/-- A logical result with N = 0, C = 0 and the given H (40_alu8.md R415, R418, R421). -/
def logic8 (res : Byte) (h : Bool) : Res8 := { res := res, flags := ⟨decide (res = 0#8), false, h, false⟩ }

/-- The result and flags of an ALU operation on A's value and an operand, with the old carry (40_alu8.md R403 to R426).
For CP the result is the difference, which the instruction discards. -/
def aluCompute (op : AluOp) (a v : Byte) (carry : Bool) : Res8 :=
  match op with
  | .add => add8 a v false
  | .adc => add8 a v carry
  | .sub => sub8 a v false
  | .sbc => sub8 a v carry
  | .and => logic8 (a &&& v) true
  | .xor => logic8 (a ^^^ v) false
  | .or => logic8 (a ||| v) false
  | .cp => sub8 a v false

/-- INC's result and flags; C is kept (40_alu8.md R427). -/
def inc8 (old : Byte) (f : Flags) : Res8 :=
  let new := old + 1#8
  { res := new, flags := { f with z := decide (new = 0#8), n := false, h := decide (old &&& 0x0F#8 = 0x0F#8) } }

/-- DEC's result and flags; C is kept (40_alu8.md R429). -/
def dec8 (old : Byte) (f : Flags) : Res8 :=
  let new := old - 1#8
  { res := new, flags := { f with z := decide (new = 0#8), n := true, h := decide (old &&& 0x0F#8 = 0x00#8) } }

/-- DAA's result and flags (40_alu8.md R431). Both tests of the additive case look at A: the first before any
adjustment, the second after the first, which leaves the low nibble alone. -/
def daa8 (a : Byte) (f : Flags) : Res8 :=
  let (v, c) :=
    if f.n then
      let v := if f.c then a - 0x60#8 else a
      (if f.h then v - 0x06#8 else v, f.c)
    else
      let high := f.c || decide (a.toNat > 0x99)
      let v := if high then a + 0x60#8 else a
      (if f.h || decide ((v &&& 0x0F#8).toNat > 0x09) then v + 0x06#8 else v, high)
  { res := v, flags := { f with z := decide (v = 0#8), h := false, c := c } }

/-- The value and the bit out of a CB shift or rotate (42_rotate_shift_bit.md R500). -/
def rotValue (op : RotOp) (v : Byte) (carry : Bool) : Byte × Bool :=
  let c8 : Byte := if carry then 1#8 else 0#8
  let b7 : Byte := v >>> 7
  let b0 : Byte := v &&& 1#8
  match op with
  | .rlc => (v <<< 1 ||| b7, v.getLsbD 7)
  | .rrc => (v >>> 1 ||| b0 <<< 7, v.getLsbD 0)
  | .rl => (v <<< 1 ||| c8, v.getLsbD 7)
  | .rr => (v >>> 1 ||| c8 <<< 7, v.getLsbD 0)
  | .sla => (v <<< 1, v.getLsbD 7)
  | .sra => (v >>> 1 ||| (v &&& 0x80#8), v.getLsbD 0)
  | .swap => ((v &&& 0x0F#8) <<< 4 ||| v >>> 4, false)
  | .srl => (v >>> 1, v.getLsbD 0)

/-- A CB shift or rotate with its flags (42_rotate_shift_bit.md R500, R517). -/
def rotCompute (op : RotOp) (v : Byte) (carry : Bool) : Res8 :=
  let r := rotValue op v carry
  { res := r.1, flags := ⟨decide (r.1 = 0#8), false, false, r.2⟩ }

/-- BIT's flags; C is kept (42_rotate_shift_bit.md R521). -/
def bitFlags (b : Nat) (v : Byte) (f : Flags) : Flags := { f with z := !v.getLsbD b, n := false, h := true }

/-- ADD HL,rr: the sum and its flags; Z is kept (41_alu16.md R450). -/
def addHl16 (a b : Word) (f : Flags) : Word × Flags :=
  (BitVec.ofNat 16 (a.toNat + b.toNat),
   { f with
     n := false
     h := decide (a.toNat % 0x1000 + b.toNat % 0x1000 > 0x0FFF)
     c := decide (a.toNat + b.toNat > 0xFFFF) })

/-- SP plus a displacement, with the flags of the unsigned low-byte sum (41_alu16.md R453, R454). -/
def addSp16 (sp : Word) (u : Byte) : Word × Flags :=
  (sp + sext16 u,
   { z := false
     n := false
     h := decide (sp.toNat % 16 + u.toNat % 16 > 0x0F)
     c := decide (sp.toNat % 256 + u.toNat > 0xFF) })

end Sys2Proof.Machine
end

