-- ==== Sys2Proof/Machine/Joypad.lean ====
section
/-! DEFINITION. The joypad: how P1 reads, and the host's press and release events (60_exceptions.md R750, R751). -/

namespace Sys2Proof.Machine

/-- Raise request `k` of IF (60_exceptions.md R705). -/
def requestIrq (k : Nat) (s : State) : State := { s with ifReg := s.ifReg ||| (1#5 <<< k) }

/-- The P1 read (60_exceptions.md R750). -/
def p1Read (j : Joypad) : Byte :=
  let nib : BitVec 4 := 0xF#4
  let nib := if j.select.getLsbD 4 then nib else nib &&& j.dirNibble
  let nib := if j.select.getLsbD 5 then nib else nib &&& j.actNibble
  0xC0#8 ||| j.select ||| nib.setWidth 8

/-- The eight buttons (60_exceptions.md R751). -/
inductive Button where
  | right | left | up | down | a | b | select | start
  deriving DecidableEq, Repr

/-- The button is in the direction group (60_exceptions.md R751). -/
def Button.isDirection : Button → Bool
  | .right | .left | .up | .down => true
  | .a | .b | .select | .start => false

/-- The button's bit in its nibble (60_exceptions.md R751). -/
def Button.bit : Button → Nat
  | .right | .a => 0
  | .left | .b => 1
  | .up | .select => 2
  | .down | .start => 3

/-- The nibble the button is in. -/
def Joypad.nibble (j : Joypad) (btn : Button) : BitVec 4 := if btn.isDirection then j.dirNibble else j.actNibble

/-- The joypad with the button's nibble replaced. -/
def Joypad.setNibble (j : Joypad) (btn : Button) (v : BitVec 4) : Joypad :=
  if btn.isDirection then { j with dirNibble := v } else { j with actNibble := v }

/-- The button's group is selected: its select bit is 0 (10_state.md R123). -/
def Joypad.selected (j : Joypad) (btn : Button) : Bool := !j.select.getLsbD (if btn.isDirection then 4 else 5)

/-- `press(btn)` (60_exceptions.md R751). -/
def press (btn : Button) (s : State) : State :=
  let old := (s.joypad.nibble btn).getLsbD btn.bit
  let t := { s with
    joypad := s.joypad.setNibble btn (s.joypad.nibble btn &&& ~~~(1#4 <<< btn.bit)) }
  if old && s.joypad.selected btn then requestIrq 4 t else t

/-- `release(btn)` (60_exceptions.md R751). -/
def release (btn : Button) (s : State) : State :=
  { s with joypad := s.joypad.setNibble btn (s.joypad.nibble btn ||| (1#4 <<< btn.bit)) }

end Sys2Proof.Machine
end

