-- ==== Sys2Proof/Machine/Mbc.lean ====
section
/-! DEFINITION. The memory bank controllers: the four operations of 20_memory.md R241 for No-MBC, MBC1 and
MBC1-multicart, and the header fields the core reads. -/

namespace Sys2Proof.Machine

/-- The variant that header type `t` selects, none where the launch is refused (20_memory.md R240, D25). -/
def mbcKindOf (multicart : Bool) (t : Byte) : Option MbcKind :=
  if t = 0x00#8 then some .noMbc
  else if t = 0x01#8 ∨ t = 0x02#8 ∨ t = 0x03#8 then some (if multicart then .mbc1Multicart else .mbc1)
  else none

/-- External RAM is present: the header's RAM size code is not 0 (20_memory.md R250, R261). -/
def ramPresent (s : State) : Bool := decide (Memory.read s.arrays.rom 0x149 ≠ 0x00#8)

/-- `lo'`: the primary register with 0 bumped to 1 (20_memory.md R243). -/
def bumpedLo (m : Mbc) : Nat := if m.bankLo = 0#5 then 1 else m.bankLo.toNat

/-- The effective bank of the 0x4000-0x7FFF window, before R252's reduction (20_memory.md R243, R253). -/
def romBank (m : Mbc) : Nat :=
  match m.kind with
  | .noMbc => 1
  | .mbc1 => if m.mode = 0#1 then m.bankHi.toNat <<< 5 ||| bumpedLo m else bumpedLo m
  | .mbc1Multicart => if m.mode = 0#1 then m.bankHi.toNat <<< 4 ||| (bumpedLo m &&& 0x0F) else bumpedLo m

/-- `nbanks = len(rom) / 0x4000` (20_memory.md R252). -/
def romBanks (s : State) : Nat := s.arrays.romLen / 0x4000

/-- Where in the image the byte at ROM address `a` comes from (20_memory.md R242, R243, R244, R252). -/
def romIndex (a : Nat) (s : State) : Nat :=
  match s.mbc.kind with
  | .noMbc => a
  | .mbc1 | .mbc1Multicart =>
    if a < 0x4000 then a else (romBank s.mbc % romBanks s) * 0x4000 + (a - 0x4000)

/-- `mbc_read_rom(a)` (20_memory.md R242 to R244). -/
def mbcReadRom (a : Nat) (s : State) : Byte := Memory.read s.arrays.rom (romIndex a s)

/-- `mbc_write_control(a, v)` (20_memory.md R242, R245 to R249). -/
def mbcWriteControl (a : Nat) (v : Byte) (s : State) : State :=
  match s.mbc.kind with
  | .noMbc => s
  | .mbc1 | .mbc1Multicart =>
    if a < 0x2000 then { s with mbc := { s.mbc with ramEnable := decide (v &&& 0x0F#8 = 0x0A#8) } }
    else if a < 0x4000 then { s with mbc := { s.mbc with bankLo := v.setWidth 5 } }
    else if a < 0x6000 then { s with mbc := { s.mbc with bankHi := v.setWidth 2 } }
    else { s with mbc := { s.mbc with mode := v.setWidth 1 } }

/-- `ram_bank` (20_memory.md R250). -/
def ramBank (m : Mbc) : Nat := if m.mode = 1#1 then m.bankHi.toNat else 0

/-- Where in `extram` offset `o` of the RAM window lands, none where the RAM is absent or disabled (20_memory.md R242,
R250, R251). -/
def extramIndex (o : Nat) (s : State) : Option Nat :=
  match s.mbc.kind with
  | .noMbc => none
  | .mbc1 | .mbc1Multicart =>
    if ramPresent s && s.mbc.ramEnable then some (ramBank s.mbc * 0x2000 + o) else none

/-- `mbc_read_ram`, `o` the offset in the window (20_memory.md R242, R250). -/
def mbcReadRam (o : Nat) (s : State) : Byte :=
  match extramIndex o s with
  | some k => Memory.read s.arrays.extram k
  | none => 0xFF#8

/-- `mbc_write_ram`, `o` the offset in the window (20_memory.md R242, R251). -/
def mbcWriteRam (o : Nat) (v : Byte) (s : State) : State :=
  match extramIndex o s with
  | some k => { s with arrays := { s.arrays with extram := Memory.write s.arrays.extram k v } }
  | none => s

end Sys2Proof.Machine
end

