-- ==== Sys2Proof/Machine/Mmu.lean ====
section
/-! DEFINITION. The memory-mapped I/O dispatcher: one decoding of an address (`route`), and reading and writing a byte or
a word through it (20_memory.md R200 to R214). -/

namespace Sys2Proof.Machine

/-- What stands at an address (20_memory.md R203). -/
inductive Place where
  /-- 0x0000-0x7FFF, with the address itself. -/
  | rom (a : Nat)
  | vram (o : Nat)
  | extRam (o : Nat)
  /-- 0xC000-0xFDFF, working RAM and its echo. -/
  | wram (o : Nat)
  | oam (o : Nat)
  | unused
  | p1
  | div
  | tima
  | tma
  | tac
  | ifReg
  | lcdc
  | stat
  | scy
  | scx
  | ly
  | bgp
  | boot
  | unmapped
  | hram (o : Nat)
  | ie
  deriving DecidableEq, Repr

/-- The I/O page 0xFF00-0xFF7F (20_memory.md R203). -/
def ioPlace (n : Nat) : Place :=
  if n = 0xFF00 then .p1
  else if n = 0xFF04 then .div
  else if n = 0xFF05 then .tima
  else if n = 0xFF06 then .tma
  else if n = 0xFF07 then .tac
  else if n = 0xFF0F then .ifReg
  else if n = 0xFF40 then .lcdc
  else if n = 0xFF41 then .stat
  else if n = 0xFF42 then .scy
  else if n = 0xFF43 then .scx
  else if n = 0xFF44 then .ly
  else if n = 0xFF47 then .bgp
  else if n = 0xFF50 then .boot
  else .unmapped

/-- The address map (20_memory.md R203). Working RAM is reached through `a & 0x1FFF` (R214). -/
def route (a : Word) : Place :=
  let n := a.toNat
  if n < 0x8000 then .rom n
  else if n < 0xA000 then .vram (n - 0x8000)
  else if n < 0xC000 then .extRam (n - 0xA000)
  else if n < 0xFE00 then .wram (n % 0x2000)
  else if n < 0xFEA0 then .oam (n - 0xFE00)
  else if n < 0xFF00 then .unused
  else if n < 0xFF80 then ioPlace n
  else if n < 0xFFFF then .hram (n - 0xFF80)
  else .ie

/-- The STAT mode code (10_state.md R119). -/
def PpuMode.code : PpuMode → Byte
  | .hblank => 0#8
  | .vblank => 1#8
  | .oamScan => 2#8
  | .pixelTransfer => 3#8

/-- What a place reads as (20_memory.md R203, read column). -/
def readPlace (p : Place) (s : State) : Byte :=
  match p with
  | .rom a => if a < 0x100 ∧ s.bootEnabled = true then Memory.read s.arrays.bootrom a else mbcReadRom a s
  | .vram o => Memory.read s.arrays.vram o
  | .extRam o => mbcReadRam o s
  | .wram o => Memory.read s.arrays.wram o
  | .oam o => Memory.read s.arrays.oam o
  | .unused => 0x00#8
  | .p1 => p1Read s.joypad
  | .div => s.timer.div
  | .tima => s.timer.tima
  | .tma => s.timer.tma
  | .tac => s.timer.tac
  | .ifReg => s.ifReg.setWidth 8 ||| 0xE0#8
  | .lcdc => s.ppu.lcdc
  | .stat => 0x80#8 ||| s.ppu.statSel ||| s.ppu.mode.code
  | .scy => s.ppu.scy
  | .scx => s.ppu.scx
  | .ly => s.ppu.ly
  | .bgp => s.ppu.bgp
  | .boot => s.params.unmappedRead
  | .unmapped => s.params.unmappedRead
  | .hram o => Memory.read s.arrays.hram o
  | .ie => s.ie

/-- What a write to a place does (20_memory.md R203, write column). -/
def writePlace (p : Place) (v : Byte) (s : State) : State :=
  match p with
  | .rom a => mbcWriteControl a v s
  | .vram o => { s with arrays := { s.arrays with vram := Memory.write s.arrays.vram o v } }
  | .extRam o => mbcWriteRam o v s
  | .wram o => { s with arrays := { s.arrays with wram := Memory.write s.arrays.wram o v } }
  | .oam o => { s with arrays := { s.arrays with oam := Memory.write s.arrays.oam o v } }
  | .unused => s
  | .p1 => { s with joypad := { s.joypad with select := v &&& 0x30#8 } }
  | .div => { s with timer := { s.timer with div := 0#8, divAcc := 0, timaAcc := 0 } }
  | .tima => { s with timer := { s.timer with tima := v } }
  | .tma => { s with timer := { s.timer with tma := v } }
  | .tac => { s with timer := { s.timer with tac := v } }
  | .ifReg => { s with ifReg := v.setWidth 5 }
  | .lcdc => { s with ppu := { s.ppu with lcdc := v } }
  | .stat => { s with ppu := { s.ppu with statSel := v &&& 0x78#8 } }
  | .scy => { s with ppu := { s.ppu with scy := v } }
  | .scx => { s with ppu := { s.ppu with scx := v } }
  | .ly => s
  | .bgp => { s with ppu := { s.ppu with bgp := v } }
  | .boot => { s with bootEnabled := false }
  | .unmapped => s
  | .hram o => { s with arrays := { s.arrays with hram := Memory.write s.arrays.hram o v } }
  | .ie => { s with ie := v }

/-- `MemRead(a, 1)` (20_memory.md R201). A read changes no state (R209). -/
def read8 (a : Word) (s : State) : Byte := readPlace (route a) s

/-- `MemWrite(a, 1, v)` (20_memory.md R202). -/
def write8 (a : Word) (v : Byte) (s : State) : State := writePlace (route a) v s

/-- `MemRead(a, 2)`: little-endian, the second byte at `(a + 1) mod 2^16` (20_memory.md R204, R206). -/
def read16 (a : Word) (s : State) : Word := mkWord (read8 (a + 1#16) s) (read8 a s)

/-- `MemWrite(a, 2, v)`: the low byte at `a`, then the high byte at `(a + 1) mod 2^16` (20_memory.md R204, D27). -/
def write16 (a : Word) (v : Word) (s : State) : State := write8 (a + 1#16) (hiByte v) (write8 a (loByte v) s)

end Sys2Proof.Machine
end

