-- ==== Sys2Proof/Machine/Ops.lean ====
section
/-! DEFINITION. The named operations over registers and memory, taking an interrupt and returning from one, and
raising a fault. Every meaning is built from these. -/

namespace Sys2Proof.Machine

/-- What a meaning answers. -/
abbrev Result := Host.Outcome State Fault Refusal

/-! ### Registers -/

/-- `x[r]` (10_state.md R100). -/
def getReg (r : Reg8) (s : State) : Byte :=
  match r with
  | .b => s.cpu.b
  | .c => s.cpu.c
  | .d => s.cpu.d
  | .e => s.cpu.e
  | .h => s.cpu.h
  | .l => s.cpu.l
  | .a => s.cpu.a

/-- `x[r] <- v` (10_state.md R100). -/
def setReg (r : Reg8) (v : Byte) (s : State) : State :=
  match r with
  | .b => { s with cpu := { s.cpu with b := v } }
  | .c => { s with cpu := { s.cpu with c := v } }
  | .d => { s with cpu := { s.cpu with d := v } }
  | .e => { s with cpu := { s.cpu with e := v } }
  | .h => { s with cpu := { s.cpu with h := v } }
  | .l => { s with cpu := { s.cpu with l := v } }
  | .a => { s with cpu := { s.cpu with a := v } }

/-- The flags, all four. -/
def setFlags (f : Flags) (s : State) : State := { s with cpu := { s.cpu with f := f } }

/-- `PC <- v`. -/
def setPc (v : Word) (s : State) : State := { s with cpu := { s.cpu with pc := v } }

/-- `SP <- v`. -/
def setSp (v : Word) (s : State) : State := { s with cpu := { s.cpu with sp := v } }

/-- `IME <- v` (10_state.md R107). -/
def setIme (v : Bool) (s : State) : State := { s with cpu := { s.cpu with ime := v } }

/-- `run_state <- v` (10_state.md R109). -/
def setRunState (v : RunState) (s : State) : State := { s with cpu := { s.cpu with runState := v } }

/-- `x[BC]`, `x[DE]`, `x[HL]`, SP (10_state.md R101, R105). -/
def getPair (p : Pair) (s : State) : Word :=
  match p with
  | .bc => mkWord s.cpu.b s.cpu.c
  | .de => mkWord s.cpu.d s.cpu.e
  | .hl => mkWord s.cpu.h s.cpu.l
  | .sp => s.cpu.sp

/-- A write to a pair writes both halves (10_state.md R101, R105). -/
def setPair (p : Pair) (v : Word) (s : State) : State :=
  match p with
  | .bc => { s with cpu := { s.cpu with b := hiByte v, c := loByte v } }
  | .de => { s with cpu := { s.cpu with d := hiByte v, e := loByte v } }
  | .hl => { s with cpu := { s.cpu with h := hiByte v, l := loByte v } }
  | .sp => setSp v s

/-- `x[HL]`. -/
def getHl (s : State) : Word := getPair .hl s

/-- `x[AF] = A : F` and the other pairs of PUSH (10_state.md R101, R102). -/
def getStackPair (p : StackPair) (s : State) : Word :=
  match p with
  | .bc => getPair .bc s
  | .de => getPair .de s
  | .hl => getPair .hl s
  | .af => mkWord s.cpu.a (packFlags s.cpu.f)

/-- A write to AF splits into A and the flags; the low nibble is lost (10_state.md R102). -/
def setStackPair (p : StackPair) (v : Word) (s : State) : State :=
  match p with
  | .bc => setPair .bc v s
  | .de => setPair .de v s
  | .hl => setPair .hl v s
  | .af => { s with cpu := { s.cpu with a := hiByte v, f := unpackFlags (loByte v) } }

/-! ### Fetch and stack (00_scope.md R9) -/

/-- `fetch8()`: the byte at PC, and the state with PC past it. -/
def fetch8 (s : State) : Byte × State := (read8 s.cpu.pc s, setPc (s.cpu.pc + 1#16) s)

/-- `push16(v)`: `SP <- SP-2; MemWrite(SP, 2, v)`. -/
def push16 (v : Word) (s : State) : State := write16 (s.cpu.sp - 2#16) v (setSp (s.cpu.sp - 2#16) s)

/-- The value `pop16()` reads. -/
def popValue (s : State) : Word := read16 s.cpu.sp s

/-- The state after `pop16()` has moved SP. -/
def popSp (s : State) : State := setSp (s.cpu.sp + 2#16) s

/-! ### Faults and interrupts -/

/-- `raise Fault(UnhandledOpcode, op)`: the fault is recorded and nothing else changes (60_exceptions.md R701,
45_system.md R656). -/
def raiseFault (f : Fault) (s : State) : State := { s with cpu := { s.cpu with fault := some f } }

/-- The interrupt sources that are dispatched (60_exceptions.md R704). -/
inductive IrqSource where
  | vblank | timer | serial | joypad
  deriving DecidableEq, Repr

/-- The source's bit in IF and IE (60_exceptions.md R704). -/
def IrqSource.bit : IrqSource → Nat
  | .vblank => 0
  | .timer => 2
  | .serial => 3
  | .joypad => 4

/-- The source's vector (60_exceptions.md R704). -/
def IrqSource.vector : IrqSource → Word
  | .vblank => 0x0040#16
  | .timer => 0x0050#16
  | .serial => 0x0058#16
  | .joypad => 0x0060#16

/-- Taking an interrupt, in R709's order: IME is cleared, the IF bit is cleared, PC is pushed through the MMU, PC becomes
the vector (60_exceptions.md R709). -/
def takeInterrupt (k : IrqSource) (s : State) : State :=
  let s := setIme false s
  let s := { s with ifReg := s.ifReg &&& ~~~(1#5 <<< k.bit) }
  let s := push16 s.cpu.pc s
  setPc k.vector s

/-- Returning from an interrupt, RETI: PC is popped and IME set at once (43_control.md R560). -/
def returnFromInterrupt (s : State) : State := setIme true (setPc (popValue s) (popSp s))

end Sys2Proof.Machine
end

