-- ==== Sys2Proof/Machine/Cycles.lean ====
section
/-! DEFINITION. The cycle cost of every instruction (30_encoding.md R309, R310; 70_reset_and_hazards.md R830), from
spec/opcode_table.json. The state is the one the meaning is given: no conditional instruction writes a flag, so the
condition it tests is the one read here. -/

namespace Sys2Proof.Machine

/-- The cost of the CB instruction with this second byte, the prefix included (30_encoding.md R310). -/
def cbCycles (op2 : Byte) : Nat :=
  if fieldZ op2 = 6 then (if fieldX op2 = 1 then 12 else 16) else 8

/-- The taken or the untaken cost (43_control.md R551, R554, R556, R558). -/
def condCycles (cc : Cond) (taken untaken : Nat) (s : State) : Nat := if condHolds cc s.cpu.f then taken else untaken

/-- The cost of an instruction. An undefined opcode's step returns none: 0 here, and it is never ticked (45_system.md
R656). The prefix byte alone costs what the CB instruction it begins costs (R655). -/
def cycles (i : Instr) (s : State) : Nat :=
  match i with
  | .jrNzE8 _ => condCycles .nz 12 8 s
  | .jrZE8 _ => condCycles .z 12 8 s
  | .jrNcE8 _ => condCycles .nc 12 8 s
  | .jrCE8 _ => condCycles .c 12 8 s
  | .retNz => condCycles .nz 20 8 s
  | .jpNzN16 _ => condCycles .nz 16 12 s
  | .callNzN16 _ => condCycles .nz 24 12 s
  | .retZ => condCycles .z 20 8 s
  | .jpZN16 _ => condCycles .z 16 12 s
  | .callZN16 _ => condCycles .z 24 12 s
  | .retNc => condCycles .nc 20 8 s
  | .jpNcN16 _ => condCycles .nc 16 12 s
  | .callNcN16 _ => condCycles .nc 24 12 s
  | .retC => condCycles .c 20 8 s
  | .jpCN16 _ => condCycles .c 16 12 s
  | .callCN16 _ => condCycles .c 24 12 s
  | .prefixCb => cbCycles (read8 s.cpu.pc s)
  | .illegalD3 | .illegalDB | .illegalDD | .illegalE3 | .illegalE4 | .illegalEB | .illegalEC | .illegalED => 0
  | .illegalF4 | .illegalFC | .illegalFD => 0
  | .nop | .incB | .decB | .rlca | .incC | .decC | .rrca | .stop _ => 4
  | .incD | .decD | .rla | .incE | .decE | .rra | .incH | .decH => 4
  | .daa | .incL | .decL | .cpl | .scf | .incA | .decA | .ccf => 4
  | .ldBB | .ldBC | .ldBD | .ldBE | .ldBH | .ldBL | .ldBA | .ldCB => 4
  | .ldCC | .ldCD | .ldCE | .ldCH | .ldCL | .ldCA | .ldDB | .ldDC => 4
  | .ldDD | .ldDE | .ldDH | .ldDL | .ldDA | .ldEB | .ldEC | .ldED => 4
  | .ldEE | .ldEH | .ldEL | .ldEA | .ldHB | .ldHC | .ldHD | .ldHE => 4
  | .ldHH | .ldHL | .ldHA | .ldLB | .ldLC | .ldLD | .ldLE | .ldLH => 4
  | .ldLL | .ldLA | .halt | .ldAB | .ldAC | .ldAD | .ldAE | .ldAH => 4
  | .ldAL | .ldAA | .addAB | .addAC | .addAD | .addAE | .addAH | .addAL => 4
  | .addAA | .adcAB | .adcAC | .adcAD | .adcAE | .adcAH | .adcAL | .adcAA => 4
  | .subAB | .subAC | .subAD | .subAE | .subAH | .subAL | .subAA | .sbcAB => 4
  | .sbcAC | .sbcAD | .sbcAE | .sbcAH | .sbcAL | .sbcAA | .andAB | .andAC => 4
  | .andAD | .andAE | .andAH | .andAL | .andAA | .xorAB | .xorAC | .xorAD => 4
  | .xorAE | .xorAH | .xorAL | .xorAA | .orAB | .orAC | .orAD | .orAE => 4
  | .orAH | .orAL | .orAA | .cpAB | .cpAC | .cpAD | .cpAE | .cpAH => 4
  | .cpAL | .cpAA | .jpHl | .di | .ei => 4
  | .ldAtBcA | .incBc | .ldBN8 _ | .addHlBc | .ldAAtBc | .decBc | .ldCN8 _ | .ldAtDeA => 8
  | .incDe | .ldDN8 _ | .addHlDe | .ldAAtDe | .decDe | .ldEN8 _ | .ldAtHlIncA | .incHl => 8
  | .ldHN8 _ | .addHlHl | .ldAAtHlInc | .decHl | .ldLN8 _ | .ldAtHlDecA | .incSp | .addHlSp => 8
  | .ldAAtHlDec | .decSp | .ldAN8 _ | .ldBAtHl | .ldCAtHl | .ldDAtHl | .ldEAtHl | .ldHAtHl => 8
  | .ldLAtHl | .ldAtHlB | .ldAtHlC | .ldAtHlD | .ldAtHlE | .ldAtHlH | .ldAtHlL | .ldAtHlA => 8
  | .ldAAtHl | .addAAtHl | .adcAAtHl | .subAAtHl | .sbcAAtHl | .andAAtHl | .xorAAtHl | .orAAtHl => 8
  | .cpAAtHl | .addAN8 _ | .adcAN8 _ | .subAN8 _ | .sbcAN8 _ | .ldAtCA | .andAN8 _ | .xorAN8 _ => 8
  | .ldAAtC | .orAN8 _ | .ldSpHl | .cpAN8 _ | .rlcB | .rlcC | .rlcD | .rlcE => 8
  | .rlcH | .rlcL | .rlcA | .rrcB | .rrcC | .rrcD | .rrcE | .rrcH => 8
  | .rrcL | .rrcA | .rlB | .rlC | .rlD | .rlE | .rlH | .rlL => 8
  | .rlA | .rrB | .rrC | .rrD | .rrE | .rrH | .rrL | .rrA => 8
  | .slaB | .slaC | .slaD | .slaE | .slaH | .slaL | .slaA | .sraB => 8
  | .sraC | .sraD | .sraE | .sraH | .sraL | .sraA | .swapB | .swapC => 8
  | .swapD | .swapE | .swapH | .swapL | .swapA | .srlB | .srlC | .srlD => 8
  | .srlE | .srlH | .srlL | .srlA | .bit0B | .bit0C | .bit0D | .bit0E => 8
  | .bit0H | .bit0L | .bit0A | .bit1B | .bit1C | .bit1D | .bit1E | .bit1H => 8
  | .bit1L | .bit1A | .bit2B | .bit2C | .bit2D | .bit2E | .bit2H | .bit2L => 8
  | .bit2A | .bit3B | .bit3C | .bit3D | .bit3E | .bit3H | .bit3L | .bit3A => 8
  | .bit4B | .bit4C | .bit4D | .bit4E | .bit4H | .bit4L | .bit4A | .bit5B => 8
  | .bit5C | .bit5D | .bit5E | .bit5H | .bit5L | .bit5A | .bit6B | .bit6C => 8
  | .bit6D | .bit6E | .bit6H | .bit6L | .bit6A | .bit7B | .bit7C | .bit7D => 8
  | .bit7E | .bit7H | .bit7L | .bit7A | .res0B | .res0C | .res0D | .res0E => 8
  | .res0H | .res0L | .res0A | .res1B | .res1C | .res1D | .res1E | .res1H => 8
  | .res1L | .res1A | .res2B | .res2C | .res2D | .res2E | .res2H | .res2L => 8
  | .res2A | .res3B | .res3C | .res3D | .res3E | .res3H | .res3L | .res3A => 8
  | .res4B | .res4C | .res4D | .res4E | .res4H | .res4L | .res4A | .res5B => 8
  | .res5C | .res5D | .res5E | .res5H | .res5L | .res5A | .res6B | .res6C => 8
  | .res6D | .res6E | .res6H | .res6L | .res6A | .res7B | .res7C | .res7D => 8
  | .res7E | .res7H | .res7L | .res7A | .set0B | .set0C | .set0D | .set0E => 8
  | .set0H | .set0L | .set0A | .set1B | .set1C | .set1D | .set1E | .set1H => 8
  | .set1L | .set1A | .set2B | .set2C | .set2D | .set2E | .set2H | .set2L => 8
  | .set2A | .set3B | .set3C | .set3D | .set3E | .set3H | .set3L | .set3A => 8
  | .set4B | .set4C | .set4D | .set4E | .set4H | .set4L | .set4A | .set5B => 8
  | .set5C | .set5D | .set5E | .set5H | .set5L | .set5A | .set6B | .set6C => 8
  | .set6D | .set6E | .set6H | .set6L | .set6A | .set7B | .set7C | .set7D => 8
  | .set7E | .set7H | .set7L | .set7A => 8
  | .ldBcN16 _ | .ldDeN16 _ | .jrE8 _ | .ldHlN16 _ | .ldSpN16 _ | .incAtHl | .decAtHl | .ldAtHlN8 _ => 12
  | .popBc | .popDe | .ldhAtN8A _ | .popHl | .ldhAAtN8 _ | .popAf | .ldHlSpE8 _ | .bit0AtHl => 12
  | .bit1AtHl | .bit2AtHl | .bit3AtHl | .bit4AtHl | .bit5AtHl | .bit6AtHl | .bit7AtHl => 12
  | .jpN16 _ | .pushBc | .rst00 | .ret | .rst08 | .pushDe | .rst10 | .reti => 16
  | .rst18 | .pushHl | .rst20 | .addSpE8 _ | .ldAtN16A _ | .rst28 | .pushAf | .rst30 => 16
  | .ldAAtN16 _ | .rst38 | .rlcAtHl | .rrcAtHl | .rlAtHl | .rrAtHl | .slaAtHl | .sraAtHl => 16
  | .swapAtHl | .srlAtHl | .res0AtHl | .res1AtHl | .res2AtHl | .res3AtHl | .res4AtHl | .res5AtHl => 16
  | .res6AtHl | .res7AtHl | .set0AtHl | .set1AtHl | .set2AtHl | .set3AtHl | .set4AtHl | .set5AtHl => 16
  | .set6AtHl | .set7AtHl => 16
  | .ldAtN16Sp _ => 20
  | .callN16 _ => 24

end Sys2Proof.Machine
end

