-- ==== Sys2Proof/Machine/Operands.lean ====
section
/-! DEFINITION. The operand forms, and each instruction family's effect over them: what every meaning of a family
calls. A state given to these has PC already past the instruction (10_state.md R106). -/

namespace Sys2Proof.Machine

/-- `src8(r)`: a register, or the byte at HL read once through the MMU (40_alu8.md R400). -/
def readOperand (o : Operand8) (s : State) : Byte :=
  match o with
  | .reg r => getReg r s
  | .atHl => read8 (getHl s) s

/-- Writing an r8 operand: a register, or the byte at HL through the MMU (30_encoding.md R303). -/
def writeOperand (o : Operand8) (v : Byte) (s : State) : State :=
  match o with
  | .reg r => setReg r v s
  | .atHl => write8 (getHl s) v s

/-- The address of a high-page form, `0xFF00 + n` (30_encoding.md R308). -/
def highPage (n : Byte) : Word := 0xFF00#16 + zext16 n

/-! ### 8-bit arithmetic and logic -/

/-- An ALU operation on A and a value; CP leaves A (40_alu8.md R403 to R426). -/
def aluValue (op : AluOp) (v : Byte) (s : State) : State :=
  let r := aluCompute op s.cpu.a v s.cpu.f.c
  match op with
  | .cp => setFlags r.flags s
  | _ => setFlags r.flags (setReg .a r.res s)

/-- An ALU operation on A and an r8 operand. -/
def aluOperand (op : AluOp) (o : Operand8) (s : State) : State := aluValue op (readOperand o s) s

/-- INC r, INC (HL) (40_alu8.md R427, R428). -/
def incOperand (o : Operand8) (s : State) : State :=
  let r := inc8 (readOperand o s) s.cpu.f
  setFlags r.flags (writeOperand o r.res s)

/-- DEC r, DEC (HL) (40_alu8.md R429, R430). -/
def decOperand (o : Operand8) (s : State) : State :=
  let r := dec8 (readOperand o s) s.cpu.f
  setFlags r.flags (writeOperand o r.res s)

/-! ### 16-bit arithmetic -/

/-- ADD HL,rr (41_alu16.md R450). -/
def addHlPair (p : Pair) (s : State) : State :=
  let r := addHl16 (getHl s) (getPair p s) s.cpu.f
  setFlags r.2 (setPair .hl r.1 s)

/-- INC rr (41_alu16.md R451). -/
def incPair (p : Pair) (s : State) : State := setPair p (getPair p s + 1#16) s

/-- DEC rr (41_alu16.md R452). -/
def decPair (p : Pair) (s : State) : State := setPair p (getPair p s - 1#16) s

/-- ADD SP,e8 (41_alu16.md R453). -/
def addSpDisp (e : Byte) (s : State) : State :=
  let r := addSp16 s.cpu.sp e
  setFlags r.2 (setSp r.1 s)

/-- LD HL,SP+e8 (41_alu16.md R454). -/
def ldHlSpDisp (e : Byte) (s : State) : State :=
  let r := addSp16 s.cpu.sp e
  setFlags r.2 (setPair .hl r.1 s)

/-! ### Rotates, shifts and bits -/

/-- A CB shift or rotate of an r8 operand: read, write, then the CB flags (42_rotate_shift_bit.md R505 to R520). -/
def rotOperand (op : RotOp) (o : Operand8) (s : State) : State :=
  let r := rotCompute op (readOperand o s) s.cpu.f.c
  setFlags r.flags (writeOperand o r.res s)

/-- RLCA, RRCA, RLA, RRA: Z is forced to 0 (42_rotate_shift_bit.md R501 to R504). -/
def rotA (op : RotOp) (s : State) : State :=
  let r := rotCompute op s.cpu.a s.cpu.f.c
  setFlags { r.flags with z := false } (setReg .a r.res s)

/-- BIT b: flags only (42_rotate_shift_bit.md R521, R522). -/
def bitOperand (b : Nat) (o : Operand8) (s : State) : State := setFlags (bitFlags b (readOperand o s) s.cpu.f) s

/-- RES b (42_rotate_shift_bit.md R523, R524). -/
def resOperand (b : Nat) (o : Operand8) (s : State) : State := writeOperand o (clearBit (readOperand o s) b) s

/-- SET b (42_rotate_shift_bit.md R525, R526). -/
def setOperand (b : Nat) (o : Operand8) (s : State) : State := writeOperand o (setBitAt (readOperand o s) b) s

/-! ### Loads -/

/-- LD between r8 operands: the source is read before the destination is written (44_loads.md R600, R602, R603). -/
def ldOperand (d o : Operand8) (s : State) : State := writeOperand d (readOperand o s) s

/-- A load of A from an address (44_loads.md R605, R606, R609, R611, R613). -/
def loadA (a : Word) (s : State) : State := setReg .a (read8 a s) s

/-- A store of A at an address (44_loads.md R607, R608, R610, R612, R614). -/
def storeA (a : Word) (s : State) : State := write8 a s.cpu.a s

/-- LD (HL+),A and LD (HL-),A: the store, then HL moved by `d` (44_loads.md R615, R616). -/
def storeAThenMove (d : Word) (s : State) : State := setPair .hl (getHl s + d) (storeA (getHl s) s)

/-- LD A,(HL+) and LD A,(HL-): the load, then HL moved by `d` (44_loads.md R617, R618). -/
def loadAThenMove (d : Word) (s : State) : State := setPair .hl (getHl s + d) (loadA (getHl s) s)

/-! ### Control -/

/-- JR's target: PC plus the signed displacement (43_control.md R553). -/
def jumpRelative (e : Byte) (s : State) : State := setPc (s.cpu.pc + sext16 e) s

/-- `push16(PC); PC <- t` (43_control.md R555, R559). -/
def callTo (t : Word) (s : State) : State := setPc t (push16 s.cpu.pc s)

/-- `PC <- pop16()` (43_control.md R557). -/
def returnPop (s : State) : State := setPc (popValue s) (popSp s)

/-- A conditional form: its effect where the condition holds, nothing otherwise (43_control.md R551, R554, R556, R558). -/
def whenCond (cc : Cond) (effect : State → State) (s : State) : State :=
  if condHolds cc s.cpu.f then effect s else s

/-- PUSH rr (43_control.md R561). -/
def pushPair (p : StackPair) (s : State) : State := push16 (getStackPair p s) s

/-- POP rr and POP AF (43_control.md R562, R563). -/
def popPair (p : StackPair) (s : State) : State := setStackPair p (popValue s) (popSp s)

end Sys2Proof.Machine
end

