-- ==== Sys2Proof/Machine/Alu16.lean ====
section
/-! DEFINITION. The meanings of the 16-bit arithmetic instructions (41_alu16.md R450 to R454). Each is given the state
with PC past the instruction (10_state.md R106). -/

namespace Sys2Proof.Machine

/-- INC BC (R451). -/
def execIncBc (s : State) : Result := .next (incPair .bc s)
/-- ADD HL,BC (R450). -/
def execAddHlBc (s : State) : Result := .next (addHlPair .bc s)
/-- DEC BC (R452). -/
def execDecBc (s : State) : Result := .next (decPair .bc s)
/-- INC DE (R451). -/
def execIncDe (s : State) : Result := .next (incPair .de s)
/-- ADD HL,DE (R450). -/
def execAddHlDe (s : State) : Result := .next (addHlPair .de s)
/-- DEC DE (R452). -/
def execDecDe (s : State) : Result := .next (decPair .de s)
/-- INC HL (R451). -/
def execIncHl (s : State) : Result := .next (incPair .hl s)
/-- ADD HL,HL (R450). -/
def execAddHlHl (s : State) : Result := .next (addHlPair .hl s)
/-- DEC HL (R452). -/
def execDecHl (s : State) : Result := .next (decPair .hl s)
/-- INC SP (R451). -/
def execIncSp (s : State) : Result := .next (incPair .sp s)
/-- ADD HL,SP (R450). -/
def execAddHlSp (s : State) : Result := .next (addHlPair .sp s)
/-- DEC SP (R452). -/
def execDecSp (s : State) : Result := .next (decPair .sp s)
/-- ADD SP,e8 (R453). -/
def execAddSpE8 (e : Byte) (s : State) : Result := .next (addSpDisp e s)
/-- LD HL,SP+e8 (R454). -/
def execLdHlSpE8 (e : Byte) (s : State) : Result := .next (ldHlSpDisp e s)

end Sys2Proof.Machine
end

