-- ==== Sys2Proof/Machine/Alu8.lean ====
section
/-! DEFINITION. The meanings of the 8-bit arithmetic and logic instructions (40_alu8.md R403 to R434). Each is given
the state with PC past the instruction (10_state.md R106). -/

namespace Sys2Proof.Machine

/-- DAA (40_alu8.md R431). -/
def daaA (s : State) : State :=
  let r := daa8 s.cpu.a s.cpu.f
  setFlags r.flags (setReg .a r.res s)

/-- CPL: A is complemented, N and H are set (40_alu8.md R432). -/
def complementA (s : State) : State := setFlags { s.cpu.f with n := true, h := true } (setReg .a (~~~s.cpu.a) s)

/-- SCF (40_alu8.md R433). -/
def setCarry (s : State) : State := setFlags { s.cpu.f with n := false, h := false, c := true } s

/-- CCF (40_alu8.md R434). -/
def complementCarry (s : State) : State := setFlags { s.cpu.f with n := false, h := false, c := !s.cpu.f.c } s

/-- INC B (R427). -/
def execIncB (s : State) : Result := .next (incOperand (.reg .b) s)
/-- DEC B (R429). -/
def execDecB (s : State) : Result := .next (decOperand (.reg .b) s)
/-- INC C (R427). -/
def execIncC (s : State) : Result := .next (incOperand (.reg .c) s)
/-- DEC C (R429). -/
def execDecC (s : State) : Result := .next (decOperand (.reg .c) s)
/-- INC D (R427). -/
def execIncD (s : State) : Result := .next (incOperand (.reg .d) s)
/-- DEC D (R429). -/
def execDecD (s : State) : Result := .next (decOperand (.reg .d) s)
/-- INC E (R427). -/
def execIncE (s : State) : Result := .next (incOperand (.reg .e) s)
/-- DEC E (R429). -/
def execDecE (s : State) : Result := .next (decOperand (.reg .e) s)
/-- INC H (R427). -/
def execIncH (s : State) : Result := .next (incOperand (.reg .h) s)
/-- DEC H (R429). -/
def execDecH (s : State) : Result := .next (decOperand (.reg .h) s)
/-- DAA (R431). -/
def execDaa (s : State) : Result := .next (daaA s)
/-- INC L (R427). -/
def execIncL (s : State) : Result := .next (incOperand (.reg .l) s)
/-- DEC L (R429). -/
def execDecL (s : State) : Result := .next (decOperand (.reg .l) s)
/-- CPL (R432). -/
def execCpl (s : State) : Result := .next (complementA s)
/-- INC (HL) (R428). -/
def execIncAtHl (s : State) : Result := .next (incOperand .atHl s)
/-- DEC (HL) (R430). -/
def execDecAtHl (s : State) : Result := .next (decOperand .atHl s)
/-- SCF (R433). -/
def execScf (s : State) : Result := .next (setCarry s)
/-- INC A (R427). -/
def execIncA (s : State) : Result := .next (incOperand (.reg .a) s)
/-- DEC A (R429). -/
def execDecA (s : State) : Result := .next (decOperand (.reg .a) s)
/-- CCF (R434). -/
def execCcf (s : State) : Result := .next (complementCarry s)
/-- ADD A,B (R403). -/
def execAddAB (s : State) : Result := .next (aluOperand .add (.reg .b) s)
/-- ADD A,C (R403). -/
def execAddAC (s : State) : Result := .next (aluOperand .add (.reg .c) s)
/-- ADD A,D (R403). -/
def execAddAD (s : State) : Result := .next (aluOperand .add (.reg .d) s)
/-- ADD A,E (R403). -/
def execAddAE (s : State) : Result := .next (aluOperand .add (.reg .e) s)
/-- ADD A,H (R403). -/
def execAddAH (s : State) : Result := .next (aluOperand .add (.reg .h) s)
/-- ADD A,L (R403). -/
def execAddAL (s : State) : Result := .next (aluOperand .add (.reg .l) s)
/-- ADD A,(HL) (R404). -/
def execAddAAtHl (s : State) : Result := .next (aluOperand .add .atHl s)
/-- ADD A,A (R403). -/
def execAddAA (s : State) : Result := .next (aluOperand .add (.reg .a) s)
/-- ADC A,B (R406). -/
def execAdcAB (s : State) : Result := .next (aluOperand .adc (.reg .b) s)
/-- ADC A,C (R406). -/
def execAdcAC (s : State) : Result := .next (aluOperand .adc (.reg .c) s)
/-- ADC A,D (R406). -/
def execAdcAD (s : State) : Result := .next (aluOperand .adc (.reg .d) s)
/-- ADC A,E (R406). -/
def execAdcAE (s : State) : Result := .next (aluOperand .adc (.reg .e) s)
/-- ADC A,H (R406). -/
def execAdcAH (s : State) : Result := .next (aluOperand .adc (.reg .h) s)
/-- ADC A,L (R406). -/
def execAdcAL (s : State) : Result := .next (aluOperand .adc (.reg .l) s)
/-- ADC A,(HL) (R407). -/
def execAdcAAtHl (s : State) : Result := .next (aluOperand .adc .atHl s)
/-- ADC A,A (R406). -/
def execAdcAA (s : State) : Result := .next (aluOperand .adc (.reg .a) s)
/-- SUB A,B (R409). -/
def execSubAB (s : State) : Result := .next (aluOperand .sub (.reg .b) s)
/-- SUB A,C (R409). -/
def execSubAC (s : State) : Result := .next (aluOperand .sub (.reg .c) s)
/-- SUB A,D (R409). -/
def execSubAD (s : State) : Result := .next (aluOperand .sub (.reg .d) s)
/-- SUB A,E (R409). -/
def execSubAE (s : State) : Result := .next (aluOperand .sub (.reg .e) s)
/-- SUB A,H (R409). -/
def execSubAH (s : State) : Result := .next (aluOperand .sub (.reg .h) s)
/-- SUB A,L (R409). -/
def execSubAL (s : State) : Result := .next (aluOperand .sub (.reg .l) s)
/-- SUB A,(HL) (R410). -/
def execSubAAtHl (s : State) : Result := .next (aluOperand .sub .atHl s)
/-- SUB A,A (R409). -/
def execSubAA (s : State) : Result := .next (aluOperand .sub (.reg .a) s)
/-- SBC A,B (R412). -/
def execSbcAB (s : State) : Result := .next (aluOperand .sbc (.reg .b) s)
/-- SBC A,C (R412). -/
def execSbcAC (s : State) : Result := .next (aluOperand .sbc (.reg .c) s)
/-- SBC A,D (R412). -/
def execSbcAD (s : State) : Result := .next (aluOperand .sbc (.reg .d) s)
/-- SBC A,E (R412). -/
def execSbcAE (s : State) : Result := .next (aluOperand .sbc (.reg .e) s)
/-- SBC A,H (R412). -/
def execSbcAH (s : State) : Result := .next (aluOperand .sbc (.reg .h) s)
/-- SBC A,L (R412). -/
def execSbcAL (s : State) : Result := .next (aluOperand .sbc (.reg .l) s)
/-- SBC A,(HL) (R413). -/
def execSbcAAtHl (s : State) : Result := .next (aluOperand .sbc .atHl s)
/-- SBC A,A (R412). -/
def execSbcAA (s : State) : Result := .next (aluOperand .sbc (.reg .a) s)
/-- AND A,B (R415). -/
def execAndAB (s : State) : Result := .next (aluOperand .and (.reg .b) s)
/-- AND A,C (R415). -/
def execAndAC (s : State) : Result := .next (aluOperand .and (.reg .c) s)
/-- AND A,D (R415). -/
def execAndAD (s : State) : Result := .next (aluOperand .and (.reg .d) s)
/-- AND A,E (R415). -/
def execAndAE (s : State) : Result := .next (aluOperand .and (.reg .e) s)
/-- AND A,H (R415). -/
def execAndAH (s : State) : Result := .next (aluOperand .and (.reg .h) s)
/-- AND A,L (R415). -/
def execAndAL (s : State) : Result := .next (aluOperand .and (.reg .l) s)
/-- AND A,(HL) (R416). -/
def execAndAAtHl (s : State) : Result := .next (aluOperand .and .atHl s)
/-- AND A,A (R415). -/
def execAndAA (s : State) : Result := .next (aluOperand .and (.reg .a) s)
/-- XOR A,B (R418). -/
def execXorAB (s : State) : Result := .next (aluOperand .xor (.reg .b) s)
/-- XOR A,C (R418). -/
def execXorAC (s : State) : Result := .next (aluOperand .xor (.reg .c) s)
/-- XOR A,D (R418). -/
def execXorAD (s : State) : Result := .next (aluOperand .xor (.reg .d) s)
/-- XOR A,E (R418). -/
def execXorAE (s : State) : Result := .next (aluOperand .xor (.reg .e) s)
/-- XOR A,H (R418). -/
def execXorAH (s : State) : Result := .next (aluOperand .xor (.reg .h) s)
/-- XOR A,L (R418). -/
def execXorAL (s : State) : Result := .next (aluOperand .xor (.reg .l) s)
/-- XOR A,(HL) (R419). -/
def execXorAAtHl (s : State) : Result := .next (aluOperand .xor .atHl s)
/-- XOR A,A (R418). -/
def execXorAA (s : State) : Result := .next (aluOperand .xor (.reg .a) s)
/-- OR A,B (R421). -/
def execOrAB (s : State) : Result := .next (aluOperand .or (.reg .b) s)
/-- OR A,C (R421). -/
def execOrAC (s : State) : Result := .next (aluOperand .or (.reg .c) s)
/-- OR A,D (R421). -/
def execOrAD (s : State) : Result := .next (aluOperand .or (.reg .d) s)
/-- OR A,E (R421). -/
def execOrAE (s : State) : Result := .next (aluOperand .or (.reg .e) s)
/-- OR A,H (R421). -/
def execOrAH (s : State) : Result := .next (aluOperand .or (.reg .h) s)
/-- OR A,L (R421). -/
def execOrAL (s : State) : Result := .next (aluOperand .or (.reg .l) s)
/-- OR A,(HL) (R422). -/
def execOrAAtHl (s : State) : Result := .next (aluOperand .or .atHl s)
/-- OR A,A (R421). -/
def execOrAA (s : State) : Result := .next (aluOperand .or (.reg .a) s)
/-- CP A,B (R424). -/
def execCpAB (s : State) : Result := .next (aluOperand .cp (.reg .b) s)
/-- CP A,C (R424). -/
def execCpAC (s : State) : Result := .next (aluOperand .cp (.reg .c) s)
/-- CP A,D (R424). -/
def execCpAD (s : State) : Result := .next (aluOperand .cp (.reg .d) s)
/-- CP A,E (R424). -/
def execCpAE (s : State) : Result := .next (aluOperand .cp (.reg .e) s)
/-- CP A,H (R424). -/
def execCpAH (s : State) : Result := .next (aluOperand .cp (.reg .h) s)
/-- CP A,L (R424). -/
def execCpAL (s : State) : Result := .next (aluOperand .cp (.reg .l) s)
/-- CP A,(HL) (R425). -/
def execCpAAtHl (s : State) : Result := .next (aluOperand .cp .atHl s)
/-- CP A,A (R424). -/
def execCpAA (s : State) : Result := .next (aluOperand .cp (.reg .a) s)
/-- ADD A,n8 (R405). -/
def execAddAN8 (n : Byte) (s : State) : Result := .next (aluValue .add n s)
/-- ADC A,n8 (R408). -/
def execAdcAN8 (n : Byte) (s : State) : Result := .next (aluValue .adc n s)
/-- SUB A,n8 (R411). -/
def execSubAN8 (n : Byte) (s : State) : Result := .next (aluValue .sub n s)
/-- SBC A,n8 (R414). -/
def execSbcAN8 (n : Byte) (s : State) : Result := .next (aluValue .sbc n s)
/-- AND A,n8 (R417). -/
def execAndAN8 (n : Byte) (s : State) : Result := .next (aluValue .and n s)
/-- XOR A,n8 (R420). -/
def execXorAN8 (n : Byte) (s : State) : Result := .next (aluValue .xor n s)
/-- OR A,n8 (R423). -/
def execOrAN8 (n : Byte) (s : State) : Result := .next (aluValue .or n s)
/-- CP A,n8 (R426). -/
def execCpAN8 (n : Byte) (s : State) : Result := .next (aluValue .cp n s)

end Sys2Proof.Machine
end

