-- ==== Sys2Proof/Machine/BitOps.lean ====
section
/-! DEFINITION. The meanings of BIT, RES and SET (42_rotate_shift_bit.md R521 to R526). Each is given the state with
PC past the instruction (10_state.md R106). -/

namespace Sys2Proof.Machine

/-- BIT 0,B (R521). -/
def execBit0B (s : State) : Result := .next (bitOperand 0 (.reg .b) s)
/-- BIT 0,C (R521). -/
def execBit0C (s : State) : Result := .next (bitOperand 0 (.reg .c) s)
/-- BIT 0,D (R521). -/
def execBit0D (s : State) : Result := .next (bitOperand 0 (.reg .d) s)
/-- BIT 0,E (R521). -/
def execBit0E (s : State) : Result := .next (bitOperand 0 (.reg .e) s)
/-- BIT 0,H (R521). -/
def execBit0H (s : State) : Result := .next (bitOperand 0 (.reg .h) s)
/-- BIT 0,L (R521). -/
def execBit0L (s : State) : Result := .next (bitOperand 0 (.reg .l) s)
/-- BIT 0,(HL) (R522). -/
def execBit0AtHl (s : State) : Result := .next (bitOperand 0 .atHl s)
/-- BIT 0,A (R521). -/
def execBit0A (s : State) : Result := .next (bitOperand 0 (.reg .a) s)
/-- BIT 1,B (R521). -/
def execBit1B (s : State) : Result := .next (bitOperand 1 (.reg .b) s)
/-- BIT 1,C (R521). -/
def execBit1C (s : State) : Result := .next (bitOperand 1 (.reg .c) s)
/-- BIT 1,D (R521). -/
def execBit1D (s : State) : Result := .next (bitOperand 1 (.reg .d) s)
/-- BIT 1,E (R521). -/
def execBit1E (s : State) : Result := .next (bitOperand 1 (.reg .e) s)
/-- BIT 1,H (R521). -/
def execBit1H (s : State) : Result := .next (bitOperand 1 (.reg .h) s)
/-- BIT 1,L (R521). -/
def execBit1L (s : State) : Result := .next (bitOperand 1 (.reg .l) s)
/-- BIT 1,(HL) (R522). -/
def execBit1AtHl (s : State) : Result := .next (bitOperand 1 .atHl s)
/-- BIT 1,A (R521). -/
def execBit1A (s : State) : Result := .next (bitOperand 1 (.reg .a) s)
/-- BIT 2,B (R521). -/
def execBit2B (s : State) : Result := .next (bitOperand 2 (.reg .b) s)
/-- BIT 2,C (R521). -/
def execBit2C (s : State) : Result := .next (bitOperand 2 (.reg .c) s)
/-- BIT 2,D (R521). -/
def execBit2D (s : State) : Result := .next (bitOperand 2 (.reg .d) s)
/-- BIT 2,E (R521). -/
def execBit2E (s : State) : Result := .next (bitOperand 2 (.reg .e) s)
/-- BIT 2,H (R521). -/
def execBit2H (s : State) : Result := .next (bitOperand 2 (.reg .h) s)
/-- BIT 2,L (R521). -/
def execBit2L (s : State) : Result := .next (bitOperand 2 (.reg .l) s)
/-- BIT 2,(HL) (R522). -/
def execBit2AtHl (s : State) : Result := .next (bitOperand 2 .atHl s)
/-- BIT 2,A (R521). -/
def execBit2A (s : State) : Result := .next (bitOperand 2 (.reg .a) s)
/-- BIT 3,B (R521). -/
def execBit3B (s : State) : Result := .next (bitOperand 3 (.reg .b) s)
/-- BIT 3,C (R521). -/
def execBit3C (s : State) : Result := .next (bitOperand 3 (.reg .c) s)
/-- BIT 3,D (R521). -/
def execBit3D (s : State) : Result := .next (bitOperand 3 (.reg .d) s)
/-- BIT 3,E (R521). -/
def execBit3E (s : State) : Result := .next (bitOperand 3 (.reg .e) s)
/-- BIT 3,H (R521). -/
def execBit3H (s : State) : Result := .next (bitOperand 3 (.reg .h) s)
/-- BIT 3,L (R521). -/
def execBit3L (s : State) : Result := .next (bitOperand 3 (.reg .l) s)
/-- BIT 3,(HL) (R522). -/
def execBit3AtHl (s : State) : Result := .next (bitOperand 3 .atHl s)
/-- BIT 3,A (R521). -/
def execBit3A (s : State) : Result := .next (bitOperand 3 (.reg .a) s)
/-- BIT 4,B (R521). -/
def execBit4B (s : State) : Result := .next (bitOperand 4 (.reg .b) s)
/-- BIT 4,C (R521). -/
def execBit4C (s : State) : Result := .next (bitOperand 4 (.reg .c) s)
/-- BIT 4,D (R521). -/
def execBit4D (s : State) : Result := .next (bitOperand 4 (.reg .d) s)
/-- BIT 4,E (R521). -/
def execBit4E (s : State) : Result := .next (bitOperand 4 (.reg .e) s)
/-- BIT 4,H (R521). -/
def execBit4H (s : State) : Result := .next (bitOperand 4 (.reg .h) s)
/-- BIT 4,L (R521). -/
def execBit4L (s : State) : Result := .next (bitOperand 4 (.reg .l) s)
/-- BIT 4,(HL) (R522). -/
def execBit4AtHl (s : State) : Result := .next (bitOperand 4 .atHl s)
/-- BIT 4,A (R521). -/
def execBit4A (s : State) : Result := .next (bitOperand 4 (.reg .a) s)
/-- BIT 5,B (R521). -/
def execBit5B (s : State) : Result := .next (bitOperand 5 (.reg .b) s)
/-- BIT 5,C (R521). -/
def execBit5C (s : State) : Result := .next (bitOperand 5 (.reg .c) s)
/-- BIT 5,D (R521). -/
def execBit5D (s : State) : Result := .next (bitOperand 5 (.reg .d) s)
/-- BIT 5,E (R521). -/
def execBit5E (s : State) : Result := .next (bitOperand 5 (.reg .e) s)
/-- BIT 5,H (R521). -/
def execBit5H (s : State) : Result := .next (bitOperand 5 (.reg .h) s)
/-- BIT 5,L (R521). -/
def execBit5L (s : State) : Result := .next (bitOperand 5 (.reg .l) s)
/-- BIT 5,(HL) (R522). -/
def execBit5AtHl (s : State) : Result := .next (bitOperand 5 .atHl s)
/-- BIT 5,A (R521). -/
def execBit5A (s : State) : Result := .next (bitOperand 5 (.reg .a) s)
/-- BIT 6,B (R521). -/
def execBit6B (s : State) : Result := .next (bitOperand 6 (.reg .b) s)
/-- BIT 6,C (R521). -/
def execBit6C (s : State) : Result := .next (bitOperand 6 (.reg .c) s)
/-- BIT 6,D (R521). -/
def execBit6D (s : State) : Result := .next (bitOperand 6 (.reg .d) s)
/-- BIT 6,E (R521). -/
def execBit6E (s : State) : Result := .next (bitOperand 6 (.reg .e) s)
/-- BIT 6,H (R521). -/
def execBit6H (s : State) : Result := .next (bitOperand 6 (.reg .h) s)
/-- BIT 6,L (R521). -/
def execBit6L (s : State) : Result := .next (bitOperand 6 (.reg .l) s)
/-- BIT 6,(HL) (R522). -/
def execBit6AtHl (s : State) : Result := .next (bitOperand 6 .atHl s)
/-- BIT 6,A (R521). -/
def execBit6A (s : State) : Result := .next (bitOperand 6 (.reg .a) s)
/-- BIT 7,B (R521). -/
def execBit7B (s : State) : Result := .next (bitOperand 7 (.reg .b) s)
/-- BIT 7,C (R521). -/
def execBit7C (s : State) : Result := .next (bitOperand 7 (.reg .c) s)
/-- BIT 7,D (R521). -/
def execBit7D (s : State) : Result := .next (bitOperand 7 (.reg .d) s)
/-- BIT 7,E (R521). -/
def execBit7E (s : State) : Result := .next (bitOperand 7 (.reg .e) s)
/-- BIT 7,H (R521). -/
def execBit7H (s : State) : Result := .next (bitOperand 7 (.reg .h) s)
/-- BIT 7,L (R521). -/
def execBit7L (s : State) : Result := .next (bitOperand 7 (.reg .l) s)
/-- BIT 7,(HL) (R522). -/
def execBit7AtHl (s : State) : Result := .next (bitOperand 7 .atHl s)
/-- BIT 7,A (R521). -/
def execBit7A (s : State) : Result := .next (bitOperand 7 (.reg .a) s)
/-- RES 0,B (R523). -/
def execRes0B (s : State) : Result := .next (resOperand 0 (.reg .b) s)
/-- RES 0,C (R523). -/
def execRes0C (s : State) : Result := .next (resOperand 0 (.reg .c) s)
/-- RES 0,D (R523). -/
def execRes0D (s : State) : Result := .next (resOperand 0 (.reg .d) s)
/-- RES 0,E (R523). -/
def execRes0E (s : State) : Result := .next (resOperand 0 (.reg .e) s)
/-- RES 0,H (R523). -/
def execRes0H (s : State) : Result := .next (resOperand 0 (.reg .h) s)
/-- RES 0,L (R523). -/
def execRes0L (s : State) : Result := .next (resOperand 0 (.reg .l) s)
/-- RES 0,(HL) (R524). -/
def execRes0AtHl (s : State) : Result := .next (resOperand 0 .atHl s)
/-- RES 0,A (R523). -/
def execRes0A (s : State) : Result := .next (resOperand 0 (.reg .a) s)
/-- RES 1,B (R523). -/
def execRes1B (s : State) : Result := .next (resOperand 1 (.reg .b) s)
/-- RES 1,C (R523). -/
def execRes1C (s : State) : Result := .next (resOperand 1 (.reg .c) s)
/-- RES 1,D (R523). -/
def execRes1D (s : State) : Result := .next (resOperand 1 (.reg .d) s)
/-- RES 1,E (R523). -/
def execRes1E (s : State) : Result := .next (resOperand 1 (.reg .e) s)
/-- RES 1,H (R523). -/
def execRes1H (s : State) : Result := .next (resOperand 1 (.reg .h) s)
/-- RES 1,L (R523). -/
def execRes1L (s : State) : Result := .next (resOperand 1 (.reg .l) s)
/-- RES 1,(HL) (R524). -/
def execRes1AtHl (s : State) : Result := .next (resOperand 1 .atHl s)
/-- RES 1,A (R523). -/
def execRes1A (s : State) : Result := .next (resOperand 1 (.reg .a) s)
/-- RES 2,B (R523). -/
def execRes2B (s : State) : Result := .next (resOperand 2 (.reg .b) s)
/-- RES 2,C (R523). -/
def execRes2C (s : State) : Result := .next (resOperand 2 (.reg .c) s)
/-- RES 2,D (R523). -/
def execRes2D (s : State) : Result := .next (resOperand 2 (.reg .d) s)
/-- RES 2,E (R523). -/
def execRes2E (s : State) : Result := .next (resOperand 2 (.reg .e) s)
/-- RES 2,H (R523). -/
def execRes2H (s : State) : Result := .next (resOperand 2 (.reg .h) s)
/-- RES 2,L (R523). -/
def execRes2L (s : State) : Result := .next (resOperand 2 (.reg .l) s)
/-- RES 2,(HL) (R524). -/
def execRes2AtHl (s : State) : Result := .next (resOperand 2 .atHl s)
/-- RES 2,A (R523). -/
def execRes2A (s : State) : Result := .next (resOperand 2 (.reg .a) s)
/-- RES 3,B (R523). -/
def execRes3B (s : State) : Result := .next (resOperand 3 (.reg .b) s)
/-- RES 3,C (R523). -/
def execRes3C (s : State) : Result := .next (resOperand 3 (.reg .c) s)
/-- RES 3,D (R523). -/
def execRes3D (s : State) : Result := .next (resOperand 3 (.reg .d) s)
/-- RES 3,E (R523). -/
def execRes3E (s : State) : Result := .next (resOperand 3 (.reg .e) s)
/-- RES 3,H (R523). -/
def execRes3H (s : State) : Result := .next (resOperand 3 (.reg .h) s)
/-- RES 3,L (R523). -/
def execRes3L (s : State) : Result := .next (resOperand 3 (.reg .l) s)
/-- RES 3,(HL) (R524). -/
def execRes3AtHl (s : State) : Result := .next (resOperand 3 .atHl s)
/-- RES 3,A (R523). -/
def execRes3A (s : State) : Result := .next (resOperand 3 (.reg .a) s)
/-- RES 4,B (R523). -/
def execRes4B (s : State) : Result := .next (resOperand 4 (.reg .b) s)
/-- RES 4,C (R523). -/
def execRes4C (s : State) : Result := .next (resOperand 4 (.reg .c) s)
/-- RES 4,D (R523). -/
def execRes4D (s : State) : Result := .next (resOperand 4 (.reg .d) s)
/-- RES 4,E (R523). -/
def execRes4E (s : State) : Result := .next (resOperand 4 (.reg .e) s)
/-- RES 4,H (R523). -/
def execRes4H (s : State) : Result := .next (resOperand 4 (.reg .h) s)
/-- RES 4,L (R523). -/
def execRes4L (s : State) : Result := .next (resOperand 4 (.reg .l) s)
/-- RES 4,(HL) (R524). -/
def execRes4AtHl (s : State) : Result := .next (resOperand 4 .atHl s)
/-- RES 4,A (R523). -/
def execRes4A (s : State) : Result := .next (resOperand 4 (.reg .a) s)
/-- RES 5,B (R523). -/
def execRes5B (s : State) : Result := .next (resOperand 5 (.reg .b) s)
/-- RES 5,C (R523). -/
def execRes5C (s : State) : Result := .next (resOperand 5 (.reg .c) s)
/-- RES 5,D (R523). -/
def execRes5D (s : State) : Result := .next (resOperand 5 (.reg .d) s)
/-- RES 5,E (R523). -/
def execRes5E (s : State) : Result := .next (resOperand 5 (.reg .e) s)
/-- RES 5,H (R523). -/
def execRes5H (s : State) : Result := .next (resOperand 5 (.reg .h) s)
/-- RES 5,L (R523). -/
def execRes5L (s : State) : Result := .next (resOperand 5 (.reg .l) s)
/-- RES 5,(HL) (R524). -/
def execRes5AtHl (s : State) : Result := .next (resOperand 5 .atHl s)
/-- RES 5,A (R523). -/
def execRes5A (s : State) : Result := .next (resOperand 5 (.reg .a) s)
/-- RES 6,B (R523). -/
def execRes6B (s : State) : Result := .next (resOperand 6 (.reg .b) s)
/-- RES 6,C (R523). -/
def execRes6C (s : State) : Result := .next (resOperand 6 (.reg .c) s)
/-- RES 6,D (R523). -/
def execRes6D (s : State) : Result := .next (resOperand 6 (.reg .d) s)
/-- RES 6,E (R523). -/
def execRes6E (s : State) : Result := .next (resOperand 6 (.reg .e) s)
/-- RES 6,H (R523). -/
def execRes6H (s : State) : Result := .next (resOperand 6 (.reg .h) s)
/-- RES 6,L (R523). -/
def execRes6L (s : State) : Result := .next (resOperand 6 (.reg .l) s)
/-- RES 6,(HL) (R524). -/
def execRes6AtHl (s : State) : Result := .next (resOperand 6 .atHl s)
/-- RES 6,A (R523). -/
def execRes6A (s : State) : Result := .next (resOperand 6 (.reg .a) s)
/-- RES 7,B (R523). -/
def execRes7B (s : State) : Result := .next (resOperand 7 (.reg .b) s)
/-- RES 7,C (R523). -/
def execRes7C (s : State) : Result := .next (resOperand 7 (.reg .c) s)
/-- RES 7,D (R523). -/
def execRes7D (s : State) : Result := .next (resOperand 7 (.reg .d) s)
/-- RES 7,E (R523). -/
def execRes7E (s : State) : Result := .next (resOperand 7 (.reg .e) s)
/-- RES 7,H (R523). -/
def execRes7H (s : State) : Result := .next (resOperand 7 (.reg .h) s)
/-- RES 7,L (R523). -/
def execRes7L (s : State) : Result := .next (resOperand 7 (.reg .l) s)
/-- RES 7,(HL) (R524). -/
def execRes7AtHl (s : State) : Result := .next (resOperand 7 .atHl s)
/-- RES 7,A (R523). -/
def execRes7A (s : State) : Result := .next (resOperand 7 (.reg .a) s)
/-- SET 0,B (R525). -/
def execSet0B (s : State) : Result := .next (setOperand 0 (.reg .b) s)
/-- SET 0,C (R525). -/
def execSet0C (s : State) : Result := .next (setOperand 0 (.reg .c) s)
/-- SET 0,D (R525). -/
def execSet0D (s : State) : Result := .next (setOperand 0 (.reg .d) s)
/-- SET 0,E (R525). -/
def execSet0E (s : State) : Result := .next (setOperand 0 (.reg .e) s)
/-- SET 0,H (R525). -/
def execSet0H (s : State) : Result := .next (setOperand 0 (.reg .h) s)
/-- SET 0,L (R525). -/
def execSet0L (s : State) : Result := .next (setOperand 0 (.reg .l) s)
/-- SET 0,(HL) (R526). -/
def execSet0AtHl (s : State) : Result := .next (setOperand 0 .atHl s)
/-- SET 0,A (R525). -/
def execSet0A (s : State) : Result := .next (setOperand 0 (.reg .a) s)
/-- SET 1,B (R525). -/
def execSet1B (s : State) : Result := .next (setOperand 1 (.reg .b) s)
/-- SET 1,C (R525). -/
def execSet1C (s : State) : Result := .next (setOperand 1 (.reg .c) s)
/-- SET 1,D (R525). -/
def execSet1D (s : State) : Result := .next (setOperand 1 (.reg .d) s)
/-- SET 1,E (R525). -/
def execSet1E (s : State) : Result := .next (setOperand 1 (.reg .e) s)
/-- SET 1,H (R525). -/
def execSet1H (s : State) : Result := .next (setOperand 1 (.reg .h) s)
/-- SET 1,L (R525). -/
def execSet1L (s : State) : Result := .next (setOperand 1 (.reg .l) s)
/-- SET 1,(HL) (R526). -/
def execSet1AtHl (s : State) : Result := .next (setOperand 1 .atHl s)
/-- SET 1,A (R525). -/
def execSet1A (s : State) : Result := .next (setOperand 1 (.reg .a) s)
/-- SET 2,B (R525). -/
def execSet2B (s : State) : Result := .next (setOperand 2 (.reg .b) s)
/-- SET 2,C (R525). -/
def execSet2C (s : State) : Result := .next (setOperand 2 (.reg .c) s)
/-- SET 2,D (R525). -/
def execSet2D (s : State) : Result := .next (setOperand 2 (.reg .d) s)
/-- SET 2,E (R525). -/
def execSet2E (s : State) : Result := .next (setOperand 2 (.reg .e) s)
/-- SET 2,H (R525). -/
def execSet2H (s : State) : Result := .next (setOperand 2 (.reg .h) s)
/-- SET 2,L (R525). -/
def execSet2L (s : State) : Result := .next (setOperand 2 (.reg .l) s)
/-- SET 2,(HL) (R526). -/
def execSet2AtHl (s : State) : Result := .next (setOperand 2 .atHl s)
/-- SET 2,A (R525). -/
def execSet2A (s : State) : Result := .next (setOperand 2 (.reg .a) s)
/-- SET 3,B (R525). -/
def execSet3B (s : State) : Result := .next (setOperand 3 (.reg .b) s)
/-- SET 3,C (R525). -/
def execSet3C (s : State) : Result := .next (setOperand 3 (.reg .c) s)
/-- SET 3,D (R525). -/
def execSet3D (s : State) : Result := .next (setOperand 3 (.reg .d) s)
/-- SET 3,E (R525). -/
def execSet3E (s : State) : Result := .next (setOperand 3 (.reg .e) s)
/-- SET 3,H (R525). -/
def execSet3H (s : State) : Result := .next (setOperand 3 (.reg .h) s)
/-- SET 3,L (R525). -/
def execSet3L (s : State) : Result := .next (setOperand 3 (.reg .l) s)
/-- SET 3,(HL) (R526). -/
def execSet3AtHl (s : State) : Result := .next (setOperand 3 .atHl s)
/-- SET 3,A (R525). -/
def execSet3A (s : State) : Result := .next (setOperand 3 (.reg .a) s)
/-- SET 4,B (R525). -/
def execSet4B (s : State) : Result := .next (setOperand 4 (.reg .b) s)
/-- SET 4,C (R525). -/
def execSet4C (s : State) : Result := .next (setOperand 4 (.reg .c) s)
/-- SET 4,D (R525). -/
def execSet4D (s : State) : Result := .next (setOperand 4 (.reg .d) s)
/-- SET 4,E (R525). -/
def execSet4E (s : State) : Result := .next (setOperand 4 (.reg .e) s)
/-- SET 4,H (R525). -/
def execSet4H (s : State) : Result := .next (setOperand 4 (.reg .h) s)
/-- SET 4,L (R525). -/
def execSet4L (s : State) : Result := .next (setOperand 4 (.reg .l) s)
/-- SET 4,(HL) (R526). -/
def execSet4AtHl (s : State) : Result := .next (setOperand 4 .atHl s)
/-- SET 4,A (R525). -/
def execSet4A (s : State) : Result := .next (setOperand 4 (.reg .a) s)
/-- SET 5,B (R525). -/
def execSet5B (s : State) : Result := .next (setOperand 5 (.reg .b) s)
/-- SET 5,C (R525). -/
def execSet5C (s : State) : Result := .next (setOperand 5 (.reg .c) s)
/-- SET 5,D (R525). -/
def execSet5D (s : State) : Result := .next (setOperand 5 (.reg .d) s)
/-- SET 5,E (R525). -/
def execSet5E (s : State) : Result := .next (setOperand 5 (.reg .e) s)
/-- SET 5,H (R525). -/
def execSet5H (s : State) : Result := .next (setOperand 5 (.reg .h) s)
/-- SET 5,L (R525). -/
def execSet5L (s : State) : Result := .next (setOperand 5 (.reg .l) s)
/-- SET 5,(HL) (R526). -/
def execSet5AtHl (s : State) : Result := .next (setOperand 5 .atHl s)
/-- SET 5,A (R525). -/
def execSet5A (s : State) : Result := .next (setOperand 5 (.reg .a) s)
/-- SET 6,B (R525). -/
def execSet6B (s : State) : Result := .next (setOperand 6 (.reg .b) s)
/-- SET 6,C (R525). -/
def execSet6C (s : State) : Result := .next (setOperand 6 (.reg .c) s)
/-- SET 6,D (R525). -/
def execSet6D (s : State) : Result := .next (setOperand 6 (.reg .d) s)
/-- SET 6,E (R525). -/
def execSet6E (s : State) : Result := .next (setOperand 6 (.reg .e) s)
/-- SET 6,H (R525). -/
def execSet6H (s : State) : Result := .next (setOperand 6 (.reg .h) s)
/-- SET 6,L (R525). -/
def execSet6L (s : State) : Result := .next (setOperand 6 (.reg .l) s)
/-- SET 6,(HL) (R526). -/
def execSet6AtHl (s : State) : Result := .next (setOperand 6 .atHl s)
/-- SET 6,A (R525). -/
def execSet6A (s : State) : Result := .next (setOperand 6 (.reg .a) s)
/-- SET 7,B (R525). -/
def execSet7B (s : State) : Result := .next (setOperand 7 (.reg .b) s)
/-- SET 7,C (R525). -/
def execSet7C (s : State) : Result := .next (setOperand 7 (.reg .c) s)
/-- SET 7,D (R525). -/
def execSet7D (s : State) : Result := .next (setOperand 7 (.reg .d) s)
/-- SET 7,E (R525). -/
def execSet7E (s : State) : Result := .next (setOperand 7 (.reg .e) s)
/-- SET 7,H (R525). -/
def execSet7H (s : State) : Result := .next (setOperand 7 (.reg .h) s)
/-- SET 7,L (R525). -/
def execSet7L (s : State) : Result := .next (setOperand 7 (.reg .l) s)
/-- SET 7,(HL) (R526). -/
def execSet7AtHl (s : State) : Result := .next (setOperand 7 .atHl s)
/-- SET 7,A (R525). -/
def execSet7A (s : State) : Result := .next (setOperand 7 (.reg .a) s)

end Sys2Proof.Machine
end

