-- ==== Sys2Proof/Machine/Control.lean ====
section
/-! DEFINITION. The meanings of the jumps, calls, returns, restarts and stack instructions (43_control.md R550 to
R563). Each is given the state with PC past the instruction (10_state.md R106). -/

namespace Sys2Proof.Machine

/-- JR e8 (R553). -/
def execJrE8 (e : Byte) (s : State) : Result := .next (jumpRelative e s)
/-- JR NZ,e8 (R554). -/
def execJrNzE8 (e : Byte) (s : State) : Result := .next (whenCond .nz (jumpRelative e) s)
/-- JR Z,e8 (R554). -/
def execJrZE8 (e : Byte) (s : State) : Result := .next (whenCond .z (jumpRelative e) s)
/-- JR NC,e8 (R554). -/
def execJrNcE8 (e : Byte) (s : State) : Result := .next (whenCond .nc (jumpRelative e) s)
/-- JR C,e8 (R554). -/
def execJrCE8 (e : Byte) (s : State) : Result := .next (whenCond .c (jumpRelative e) s)
/-- RET NZ (R558). -/
def execRetNz (s : State) : Result := .next (whenCond .nz returnPop s)
/-- POP BC (R562). -/
def execPopBc (s : State) : Result := .next (popPair .bc s)
/-- JP NZ,n16 (R551). -/
def execJpNzN16 (n : Word) (s : State) : Result := .next (whenCond .nz (setPc n) s)
/-- JP n16 (R550). -/
def execJpN16 (n : Word) (s : State) : Result := .next (setPc n s)
/-- CALL NZ,n16 (R556). -/
def execCallNzN16 (n : Word) (s : State) : Result := .next (whenCond .nz (callTo n) s)
/-- PUSH BC (R561). -/
def execPushBc (s : State) : Result := .next (pushPair .bc s)
/-- RST 0x00 (R559). -/
def execRst00 (s : State) : Result := .next (callTo 0x0000#16 s)
/-- RET Z (R558). -/
def execRetZ (s : State) : Result := .next (whenCond .z returnPop s)
/-- RET (R557). -/
def execRet (s : State) : Result := .next (returnPop s)
/-- JP Z,n16 (R551). -/
def execJpZN16 (n : Word) (s : State) : Result := .next (whenCond .z (setPc n) s)
/-- CALL Z,n16 (R556). -/
def execCallZN16 (n : Word) (s : State) : Result := .next (whenCond .z (callTo n) s)
/-- CALL n16 (R555). -/
def execCallN16 (n : Word) (s : State) : Result := .next (callTo n s)
/-- RST 0x08 (R559). -/
def execRst08 (s : State) : Result := .next (callTo 0x0008#16 s)
/-- RET NC (R558). -/
def execRetNc (s : State) : Result := .next (whenCond .nc returnPop s)
/-- POP DE (R562). -/
def execPopDe (s : State) : Result := .next (popPair .de s)
/-- JP NC,n16 (R551). -/
def execJpNcN16 (n : Word) (s : State) : Result := .next (whenCond .nc (setPc n) s)
/-- CALL NC,n16 (R556). -/
def execCallNcN16 (n : Word) (s : State) : Result := .next (whenCond .nc (callTo n) s)
/-- PUSH DE (R561). -/
def execPushDe (s : State) : Result := .next (pushPair .de s)
/-- RST 0x10 (R559). -/
def execRst10 (s : State) : Result := .next (callTo 0x0010#16 s)
/-- RET C (R558). -/
def execRetC (s : State) : Result := .next (whenCond .c returnPop s)
/-- RETI (R560). -/
def execReti (s : State) : Result := .next (returnFromInterrupt s)
/-- JP C,n16 (R551). -/
def execJpCN16 (n : Word) (s : State) : Result := .next (whenCond .c (setPc n) s)
/-- CALL C,n16 (R556). -/
def execCallCN16 (n : Word) (s : State) : Result := .next (whenCond .c (callTo n) s)
/-- RST 0x18 (R559). -/
def execRst18 (s : State) : Result := .next (callTo 0x0018#16 s)
/-- POP HL (R562). -/
def execPopHl (s : State) : Result := .next (popPair .hl s)
/-- PUSH HL (R561). -/
def execPushHl (s : State) : Result := .next (pushPair .hl s)
/-- RST 0x20 (R559). -/
def execRst20 (s : State) : Result := .next (callTo 0x0020#16 s)
/-- JP HL (R552). -/
def execJpHl (s : State) : Result := .next (setPc (getHl s) s)
/-- RST 0x28 (R559). -/
def execRst28 (s : State) : Result := .next (callTo 0x0028#16 s)
/-- POP AF (R563). -/
def execPopAf (s : State) : Result := .next (popPair .af s)
/-- PUSH AF (R561). -/
def execPushAf (s : State) : Result := .next (pushPair .af s)
/-- RST 0x30 (R559). -/
def execRst30 (s : State) : Result := .next (callTo 0x0030#16 s)
/-- RST 0x38 (R559). -/
def execRst38 (s : State) : Result := .next (callTo 0x0038#16 s)

end Sys2Proof.Machine
end

