-- ==== Sys2Proof/Machine/Loads.lean ====
section
/-! DEFINITION. The meanings of the loads and stores (44_loads.md R600 to R621). Each is given the state with PC past
the instruction (10_state.md R106). -/

namespace Sys2Proof.Machine

/-- LD BC,n16 (R619). -/
def execLdBcN16 (n : Word) (s : State) : Result := .next (setPair .bc n s)
/-- LD (BC),A (R607). -/
def execLdAtBcA (s : State) : Result := .next (storeA (getPair .bc s) s)
/-- LD B,n8 (R601). -/
def execLdBN8 (n : Byte) (s : State) : Result := .next (writeOperand (.reg .b) n s)
/-- LD (n16),SP (R620). -/
def execLdAtN16Sp (n : Word) (s : State) : Result := .next (write16 n s.cpu.sp s)
/-- LD A,(BC) (R605). -/
def execLdAAtBc (s : State) : Result := .next (loadA (getPair .bc s) s)
/-- LD C,n8 (R601). -/
def execLdCN8 (n : Byte) (s : State) : Result := .next (writeOperand (.reg .c) n s)
/-- LD DE,n16 (R619). -/
def execLdDeN16 (n : Word) (s : State) : Result := .next (setPair .de n s)
/-- LD (DE),A (R608). -/
def execLdAtDeA (s : State) : Result := .next (storeA (getPair .de s) s)
/-- LD D,n8 (R601). -/
def execLdDN8 (n : Byte) (s : State) : Result := .next (writeOperand (.reg .d) n s)
/-- LD A,(DE) (R606). -/
def execLdAAtDe (s : State) : Result := .next (loadA (getPair .de s) s)
/-- LD E,n8 (R601). -/
def execLdEN8 (n : Byte) (s : State) : Result := .next (writeOperand (.reg .e) n s)
/-- LD HL,n16 (R619). -/
def execLdHlN16 (n : Word) (s : State) : Result := .next (setPair .hl n s)
/-- LD (HL+),A (R615). -/
def execLdAtHlIncA (s : State) : Result := .next (storeAThenMove 0x0001#16 s)
/-- LD H,n8 (R601). -/
def execLdHN8 (n : Byte) (s : State) : Result := .next (writeOperand (.reg .h) n s)
/-- LD A,(HL+) (R617). -/
def execLdAAtHlInc (s : State) : Result := .next (loadAThenMove 0x0001#16 s)
/-- LD L,n8 (R601). -/
def execLdLN8 (n : Byte) (s : State) : Result := .next (writeOperand (.reg .l) n s)
/-- LD SP,n16 (R619). -/
def execLdSpN16 (n : Word) (s : State) : Result := .next (setPair .sp n s)
/-- LD (HL-),A (R616). -/
def execLdAtHlDecA (s : State) : Result := .next (storeAThenMove 0xFFFF#16 s)
/-- LD (HL),n8 (R604). -/
def execLdAtHlN8 (n : Byte) (s : State) : Result := .next (writeOperand .atHl n s)
/-- LD A,(HL-) (R618). -/
def execLdAAtHlDec (s : State) : Result := .next (loadAThenMove 0xFFFF#16 s)
/-- LD A,n8 (R601). -/
def execLdAN8 (n : Byte) (s : State) : Result := .next (writeOperand (.reg .a) n s)
/-- LD B,B (R600). -/
def execLdBB (s : State) : Result := .next (ldOperand (.reg .b) (.reg .b) s)
/-- LD B,C (R600). -/
def execLdBC (s : State) : Result := .next (ldOperand (.reg .b) (.reg .c) s)
/-- LD B,D (R600). -/
def execLdBD (s : State) : Result := .next (ldOperand (.reg .b) (.reg .d) s)
/-- LD B,E (R600). -/
def execLdBE (s : State) : Result := .next (ldOperand (.reg .b) (.reg .e) s)
/-- LD B,H (R600). -/
def execLdBH (s : State) : Result := .next (ldOperand (.reg .b) (.reg .h) s)
/-- LD B,L (R600). -/
def execLdBL (s : State) : Result := .next (ldOperand (.reg .b) (.reg .l) s)
/-- LD B,(HL) (R602). -/
def execLdBAtHl (s : State) : Result := .next (ldOperand (.reg .b) .atHl s)
/-- LD B,A (R600). -/
def execLdBA (s : State) : Result := .next (ldOperand (.reg .b) (.reg .a) s)
/-- LD C,B (R600). -/
def execLdCB (s : State) : Result := .next (ldOperand (.reg .c) (.reg .b) s)
/-- LD C,C (R600). -/
def execLdCC (s : State) : Result := .next (ldOperand (.reg .c) (.reg .c) s)
/-- LD C,D (R600). -/
def execLdCD (s : State) : Result := .next (ldOperand (.reg .c) (.reg .d) s)
/-- LD C,E (R600). -/
def execLdCE (s : State) : Result := .next (ldOperand (.reg .c) (.reg .e) s)
/-- LD C,H (R600). -/
def execLdCH (s : State) : Result := .next (ldOperand (.reg .c) (.reg .h) s)
/-- LD C,L (R600). -/
def execLdCL (s : State) : Result := .next (ldOperand (.reg .c) (.reg .l) s)
/-- LD C,(HL) (R602). -/
def execLdCAtHl (s : State) : Result := .next (ldOperand (.reg .c) .atHl s)
/-- LD C,A (R600). -/
def execLdCA (s : State) : Result := .next (ldOperand (.reg .c) (.reg .a) s)
/-- LD D,B (R600). -/
def execLdDB (s : State) : Result := .next (ldOperand (.reg .d) (.reg .b) s)
/-- LD D,C (R600). -/
def execLdDC (s : State) : Result := .next (ldOperand (.reg .d) (.reg .c) s)
/-- LD D,D (R600). -/
def execLdDD (s : State) : Result := .next (ldOperand (.reg .d) (.reg .d) s)
/-- LD D,E (R600). -/
def execLdDE (s : State) : Result := .next (ldOperand (.reg .d) (.reg .e) s)
/-- LD D,H (R600). -/
def execLdDH (s : State) : Result := .next (ldOperand (.reg .d) (.reg .h) s)
/-- LD D,L (R600). -/
def execLdDL (s : State) : Result := .next (ldOperand (.reg .d) (.reg .l) s)
/-- LD D,(HL) (R602). -/
def execLdDAtHl (s : State) : Result := .next (ldOperand (.reg .d) .atHl s)
/-- LD D,A (R600). -/
def execLdDA (s : State) : Result := .next (ldOperand (.reg .d) (.reg .a) s)
/-- LD E,B (R600). -/
def execLdEB (s : State) : Result := .next (ldOperand (.reg .e) (.reg .b) s)
/-- LD E,C (R600). -/
def execLdEC (s : State) : Result := .next (ldOperand (.reg .e) (.reg .c) s)
/-- LD E,D (R600). -/
def execLdED (s : State) : Result := .next (ldOperand (.reg .e) (.reg .d) s)
/-- LD E,E (R600). -/
def execLdEE (s : State) : Result := .next (ldOperand (.reg .e) (.reg .e) s)
/-- LD E,H (R600). -/
def execLdEH (s : State) : Result := .next (ldOperand (.reg .e) (.reg .h) s)
/-- LD E,L (R600). -/
def execLdEL (s : State) : Result := .next (ldOperand (.reg .e) (.reg .l) s)
/-- LD E,(HL) (R602). -/
def execLdEAtHl (s : State) : Result := .next (ldOperand (.reg .e) .atHl s)
/-- LD E,A (R600). -/
def execLdEA (s : State) : Result := .next (ldOperand (.reg .e) (.reg .a) s)
/-- LD H,B (R600). -/
def execLdHB (s : State) : Result := .next (ldOperand (.reg .h) (.reg .b) s)
/-- LD H,C (R600). -/
def execLdHC (s : State) : Result := .next (ldOperand (.reg .h) (.reg .c) s)
/-- LD H,D (R600). -/
def execLdHD (s : State) : Result := .next (ldOperand (.reg .h) (.reg .d) s)
/-- LD H,E (R600). -/
def execLdHE (s : State) : Result := .next (ldOperand (.reg .h) (.reg .e) s)
/-- LD H,H (R600). -/
def execLdHH (s : State) : Result := .next (ldOperand (.reg .h) (.reg .h) s)
/-- LD H,L (R600). -/
def execLdHL (s : State) : Result := .next (ldOperand (.reg .h) (.reg .l) s)
/-- LD H,(HL) (R602). -/
def execLdHAtHl (s : State) : Result := .next (ldOperand (.reg .h) .atHl s)
/-- LD H,A (R600). -/
def execLdHA (s : State) : Result := .next (ldOperand (.reg .h) (.reg .a) s)
/-- LD L,B (R600). -/
def execLdLB (s : State) : Result := .next (ldOperand (.reg .l) (.reg .b) s)
/-- LD L,C (R600). -/
def execLdLC (s : State) : Result := .next (ldOperand (.reg .l) (.reg .c) s)
/-- LD L,D (R600). -/
def execLdLD (s : State) : Result := .next (ldOperand (.reg .l) (.reg .d) s)
/-- LD L,E (R600). -/
def execLdLE (s : State) : Result := .next (ldOperand (.reg .l) (.reg .e) s)
/-- LD L,H (R600). -/
def execLdLH (s : State) : Result := .next (ldOperand (.reg .l) (.reg .h) s)
/-- LD L,L (R600). -/
def execLdLL (s : State) : Result := .next (ldOperand (.reg .l) (.reg .l) s)
/-- LD L,(HL) (R602). -/
def execLdLAtHl (s : State) : Result := .next (ldOperand (.reg .l) .atHl s)
/-- LD L,A (R600). -/
def execLdLA (s : State) : Result := .next (ldOperand (.reg .l) (.reg .a) s)
/-- LD (HL),B (R603). -/
def execLdAtHlB (s : State) : Result := .next (ldOperand .atHl (.reg .b) s)
/-- LD (HL),C (R603). -/
def execLdAtHlC (s : State) : Result := .next (ldOperand .atHl (.reg .c) s)
/-- LD (HL),D (R603). -/
def execLdAtHlD (s : State) : Result := .next (ldOperand .atHl (.reg .d) s)
/-- LD (HL),E (R603). -/
def execLdAtHlE (s : State) : Result := .next (ldOperand .atHl (.reg .e) s)
/-- LD (HL),H (R603). -/
def execLdAtHlH (s : State) : Result := .next (ldOperand .atHl (.reg .h) s)
/-- LD (HL),L (R603). -/
def execLdAtHlL (s : State) : Result := .next (ldOperand .atHl (.reg .l) s)
/-- LD (HL),A (R603). -/
def execLdAtHlA (s : State) : Result := .next (ldOperand .atHl (.reg .a) s)
/-- LD A,B (R600). -/
def execLdAB (s : State) : Result := .next (ldOperand (.reg .a) (.reg .b) s)
/-- LD A,C (R600). -/
def execLdAC (s : State) : Result := .next (ldOperand (.reg .a) (.reg .c) s)
/-- LD A,D (R600). -/
def execLdAD (s : State) : Result := .next (ldOperand (.reg .a) (.reg .d) s)
/-- LD A,E (R600). -/
def execLdAE (s : State) : Result := .next (ldOperand (.reg .a) (.reg .e) s)
/-- LD A,H (R600). -/
def execLdAH (s : State) : Result := .next (ldOperand (.reg .a) (.reg .h) s)
/-- LD A,L (R600). -/
def execLdAL (s : State) : Result := .next (ldOperand (.reg .a) (.reg .l) s)
/-- LD A,(HL) (R602). -/
def execLdAAtHl (s : State) : Result := .next (ldOperand (.reg .a) .atHl s)
/-- LD A,A (R600). -/
def execLdAA (s : State) : Result := .next (ldOperand (.reg .a) (.reg .a) s)
/-- LDH (n8),A (R612). -/
def execLdhAtN8A (n : Byte) (s : State) : Result := .next (storeA (highPage n) s)
/-- LD (C),A (R614). -/
def execLdAtCA (s : State) : Result := .next (storeA (highPage s.cpu.c) s)
/-- LD (n16),A (R610). -/
def execLdAtN16A (n : Word) (s : State) : Result := .next (storeA n s)
/-- LDH A,(n8) (R611). -/
def execLdhAAtN8 (n : Byte) (s : State) : Result := .next (loadA (highPage n) s)
/-- LD A,(C) (R613). -/
def execLdAAtC (s : State) : Result := .next (loadA (highPage s.cpu.c) s)
/-- LD SP,HL (R621). -/
def execLdSpHl (s : State) : Result := .next (setSp (getHl s) s)
/-- LD A,(n16) (R609). -/
def execLdAAtN16 (n : Word) (s : State) : Result := .next (loadA n s)

end Sys2Proof.Machine
end

