-- ==== Sys2Proof/Machine/RotateShift.lean ====
section
/-! DEFINITION. The meanings of the accumulator rotates and of the CB rotates and shifts (42_rotate_shift_bit.md R501
to R520). Each is given the state with PC past the instruction (10_state.md R106). -/

namespace Sys2Proof.Machine

/-- RLCA (R501). -/
def execRlca (s : State) : Result := .next (rotA .rlc s)
/-- RRCA (R502). -/
def execRrca (s : State) : Result := .next (rotA .rrc s)
/-- RLA (R503). -/
def execRla (s : State) : Result := .next (rotA .rl s)
/-- RRA (R504). -/
def execRra (s : State) : Result := .next (rotA .rr s)
/-- RLC B (R505). -/
def execRlcB (s : State) : Result := .next (rotOperand .rlc (.reg .b) s)
/-- RLC C (R505). -/
def execRlcC (s : State) : Result := .next (rotOperand .rlc (.reg .c) s)
/-- RLC D (R505). -/
def execRlcD (s : State) : Result := .next (rotOperand .rlc (.reg .d) s)
/-- RLC E (R505). -/
def execRlcE (s : State) : Result := .next (rotOperand .rlc (.reg .e) s)
/-- RLC H (R505). -/
def execRlcH (s : State) : Result := .next (rotOperand .rlc (.reg .h) s)
/-- RLC L (R505). -/
def execRlcL (s : State) : Result := .next (rotOperand .rlc (.reg .l) s)
/-- RLC (HL) (R506). -/
def execRlcAtHl (s : State) : Result := .next (rotOperand .rlc .atHl s)
/-- RLC A (R505). -/
def execRlcA (s : State) : Result := .next (rotOperand .rlc (.reg .a) s)
/-- RRC B (R507). -/
def execRrcB (s : State) : Result := .next (rotOperand .rrc (.reg .b) s)
/-- RRC C (R507). -/
def execRrcC (s : State) : Result := .next (rotOperand .rrc (.reg .c) s)
/-- RRC D (R507). -/
def execRrcD (s : State) : Result := .next (rotOperand .rrc (.reg .d) s)
/-- RRC E (R507). -/
def execRrcE (s : State) : Result := .next (rotOperand .rrc (.reg .e) s)
/-- RRC H (R507). -/
def execRrcH (s : State) : Result := .next (rotOperand .rrc (.reg .h) s)
/-- RRC L (R507). -/
def execRrcL (s : State) : Result := .next (rotOperand .rrc (.reg .l) s)
/-- RRC (HL) (R508). -/
def execRrcAtHl (s : State) : Result := .next (rotOperand .rrc .atHl s)
/-- RRC A (R507). -/
def execRrcA (s : State) : Result := .next (rotOperand .rrc (.reg .a) s)
/-- RL B (R509). -/
def execRlB (s : State) : Result := .next (rotOperand .rl (.reg .b) s)
/-- RL C (R509). -/
def execRlC (s : State) : Result := .next (rotOperand .rl (.reg .c) s)
/-- RL D (R509). -/
def execRlD (s : State) : Result := .next (rotOperand .rl (.reg .d) s)
/-- RL E (R509). -/
def execRlE (s : State) : Result := .next (rotOperand .rl (.reg .e) s)
/-- RL H (R509). -/
def execRlH (s : State) : Result := .next (rotOperand .rl (.reg .h) s)
/-- RL L (R509). -/
def execRlL (s : State) : Result := .next (rotOperand .rl (.reg .l) s)
/-- RL (HL) (R510). -/
def execRlAtHl (s : State) : Result := .next (rotOperand .rl .atHl s)
/-- RL A (R509). -/
def execRlA (s : State) : Result := .next (rotOperand .rl (.reg .a) s)
/-- RR B (R511). -/
def execRrB (s : State) : Result := .next (rotOperand .rr (.reg .b) s)
/-- RR C (R511). -/
def execRrC (s : State) : Result := .next (rotOperand .rr (.reg .c) s)
/-- RR D (R511). -/
def execRrD (s : State) : Result := .next (rotOperand .rr (.reg .d) s)
/-- RR E (R511). -/
def execRrE (s : State) : Result := .next (rotOperand .rr (.reg .e) s)
/-- RR H (R511). -/
def execRrH (s : State) : Result := .next (rotOperand .rr (.reg .h) s)
/-- RR L (R511). -/
def execRrL (s : State) : Result := .next (rotOperand .rr (.reg .l) s)
/-- RR (HL) (R512). -/
def execRrAtHl (s : State) : Result := .next (rotOperand .rr .atHl s)
/-- RR A (R511). -/
def execRrA (s : State) : Result := .next (rotOperand .rr (.reg .a) s)
/-- SLA B (R513). -/
def execSlaB (s : State) : Result := .next (rotOperand .sla (.reg .b) s)
/-- SLA C (R513). -/
def execSlaC (s : State) : Result := .next (rotOperand .sla (.reg .c) s)
/-- SLA D (R513). -/
def execSlaD (s : State) : Result := .next (rotOperand .sla (.reg .d) s)
/-- SLA E (R513). -/
def execSlaE (s : State) : Result := .next (rotOperand .sla (.reg .e) s)
/-- SLA H (R513). -/
def execSlaH (s : State) : Result := .next (rotOperand .sla (.reg .h) s)
/-- SLA L (R513). -/
def execSlaL (s : State) : Result := .next (rotOperand .sla (.reg .l) s)
/-- SLA (HL) (R514). -/
def execSlaAtHl (s : State) : Result := .next (rotOperand .sla .atHl s)
/-- SLA A (R513). -/
def execSlaA (s : State) : Result := .next (rotOperand .sla (.reg .a) s)
/-- SRA B (R515). -/
def execSraB (s : State) : Result := .next (rotOperand .sra (.reg .b) s)
/-- SRA C (R515). -/
def execSraC (s : State) : Result := .next (rotOperand .sra (.reg .c) s)
/-- SRA D (R515). -/
def execSraD (s : State) : Result := .next (rotOperand .sra (.reg .d) s)
/-- SRA E (R515). -/
def execSraE (s : State) : Result := .next (rotOperand .sra (.reg .e) s)
/-- SRA H (R515). -/
def execSraH (s : State) : Result := .next (rotOperand .sra (.reg .h) s)
/-- SRA L (R515). -/
def execSraL (s : State) : Result := .next (rotOperand .sra (.reg .l) s)
/-- SRA (HL) (R516). -/
def execSraAtHl (s : State) : Result := .next (rotOperand .sra .atHl s)
/-- SRA A (R515). -/
def execSraA (s : State) : Result := .next (rotOperand .sra (.reg .a) s)
/-- SWAP B (R517). -/
def execSwapB (s : State) : Result := .next (rotOperand .swap (.reg .b) s)
/-- SWAP C (R517). -/
def execSwapC (s : State) : Result := .next (rotOperand .swap (.reg .c) s)
/-- SWAP D (R517). -/
def execSwapD (s : State) : Result := .next (rotOperand .swap (.reg .d) s)
/-- SWAP E (R517). -/
def execSwapE (s : State) : Result := .next (rotOperand .swap (.reg .e) s)
/-- SWAP H (R517). -/
def execSwapH (s : State) : Result := .next (rotOperand .swap (.reg .h) s)
/-- SWAP L (R517). -/
def execSwapL (s : State) : Result := .next (rotOperand .swap (.reg .l) s)
/-- SWAP (HL) (R518). -/
def execSwapAtHl (s : State) : Result := .next (rotOperand .swap .atHl s)
/-- SWAP A (R517). -/
def execSwapA (s : State) : Result := .next (rotOperand .swap (.reg .a) s)
/-- SRL B (R519). -/
def execSrlB (s : State) : Result := .next (rotOperand .srl (.reg .b) s)
/-- SRL C (R519). -/
def execSrlC (s : State) : Result := .next (rotOperand .srl (.reg .c) s)
/-- SRL D (R519). -/
def execSrlD (s : State) : Result := .next (rotOperand .srl (.reg .d) s)
/-- SRL E (R519). -/
def execSrlE (s : State) : Result := .next (rotOperand .srl (.reg .e) s)
/-- SRL H (R519). -/
def execSrlH (s : State) : Result := .next (rotOperand .srl (.reg .h) s)
/-- SRL L (R519). -/
def execSrlL (s : State) : Result := .next (rotOperand .srl (.reg .l) s)
/-- SRL (HL) (R520). -/
def execSrlAtHl (s : State) : Result := .next (rotOperand .srl .atHl s)
/-- SRL A (R519). -/
def execSrlA (s : State) : Result := .next (rotOperand .srl (.reg .a) s)

end Sys2Proof.Machine
end

