-- ==== Sys2Proof/Machine/SystemOps.lean ====
section
/-! DEFINITION. The meanings of the system instructions, of the CB prefix and of the undefined opcodes (45_system.md
R650 to R656). Each is given the state with PC past the instruction (10_state.md R106). -/

namespace Sys2Proof.Machine

/-- `ei_pending <- 1`; IME is not changed by EI itself (45_system.md R654). -/
def setEiPending (s : State) : State := { s with cpu := { s.cpu with eiPending := true } }

/-- What the CB table does for a second byte, with PC past it (45_system.md R655, 30_encoding.md R307). -/
def cbEffect (op2 : Byte) (s : State) : State :=
  match fieldX op2 with
  | 0 => rotOperand (rotOpOf (fieldY op2)) (operand8 (fieldZ op2)) s
  | 1 => bitOperand (bitOf (fieldY op2)) (operand8 (fieldZ op2)) s
  | 2 => resOperand (bitOf (fieldY op2)) (operand8 (fieldZ op2)) s
  | _ => setOperand (bitOf (fieldY op2)) (operand8 (fieldZ op2)) s

/-- NOP (R650): PC has already advanced. -/
def execNop (s : State) : Result := .next s
/-- STOP (R652). -/
def execStop (_n : Byte) (s : State) : Result := .next (setRunState .stopped s)
/-- HALT (R651). -/
def execHalt (s : State) : Result := .next (setRunState .halted s)
/-- PREFIX CB (R655). -/
def execPrefixCb (s : State) : Result := .next (cbEffect (fetch8 s).1 (fetch8 s).2)
/-- ILLEGAL_D3 (R656). -/
def execIllegalD3 (s : State) : Result := .next (raiseFault (.unhandledOpcode 0xD3#8) s)
/-- ILLEGAL_DB (R656). -/
def execIllegalDB (s : State) : Result := .next (raiseFault (.unhandledOpcode 0xDB#8) s)
/-- ILLEGAL_DD (R656). -/
def execIllegalDD (s : State) : Result := .next (raiseFault (.unhandledOpcode 0xDD#8) s)
/-- ILLEGAL_E3 (R656). -/
def execIllegalE3 (s : State) : Result := .next (raiseFault (.unhandledOpcode 0xE3#8) s)
/-- ILLEGAL_E4 (R656). -/
def execIllegalE4 (s : State) : Result := .next (raiseFault (.unhandledOpcode 0xE4#8) s)
/-- ILLEGAL_EB (R656). -/
def execIllegalEB (s : State) : Result := .next (raiseFault (.unhandledOpcode 0xEB#8) s)
/-- ILLEGAL_EC (R656). -/
def execIllegalEC (s : State) : Result := .next (raiseFault (.unhandledOpcode 0xEC#8) s)
/-- ILLEGAL_ED (R656). -/
def execIllegalED (s : State) : Result := .next (raiseFault (.unhandledOpcode 0xED#8) s)
/-- DI (R653). -/
def execDi (s : State) : Result := .next (setIme false s)
/-- ILLEGAL_F4 (R656). -/
def execIllegalF4 (s : State) : Result := .next (raiseFault (.unhandledOpcode 0xF4#8) s)
/-- EI (R654). -/
def execEi (s : State) : Result := .next (setEiPending s)
/-- ILLEGAL_FC (R656). -/
def execIllegalFC (s : State) : Result := .next (raiseFault (.unhandledOpcode 0xFC#8) s)
/-- ILLEGAL_FD (R656). -/
def execIllegalFD (s : State) : Result := .next (raiseFault (.unhandledOpcode 0xFD#8) s)

end Sys2Proof.Machine
end

