-- ==== Sys2Proof/Machine/Ppu.lean ====
section
/-! DEFINITION. The pixel-processing unit: the mode machine, the background renderer and what the host sees of the
framebuffer (60_exceptions.md R730 to R737). -/

namespace Sys2Proof.Machine

/-- A mode's cycle budget (60_exceptions.md R730). -/
def PpuMode.budget : PpuMode → Nat
  | .oamScan => 80
  | .pixelTransfer => 172
  | .hblank => 204
  | .vblank => 456

/-- The offset in VRAM of the background tile map (60_exceptions.md R736, 10_state.md R118). -/
def tileMapBase (p : Ppu) : Nat := if p.lcdc.getLsbD 3 then 0x9C00 - 0x8000 else 0x9800 - 0x8000

/-- The offset in VRAM of tile `t`'s data: unsigned from 0x8000, or signed from 0x9000 (60_exceptions.md R736). -/
def tileDataBase (p : Ppu) (t : Byte) : Nat :=
  if p.lcdc.getLsbD 4 then t.toNat * 16 else (0x1000 + t.toInt * 16).toNat

/-- The shade of column `x` of a line (60_exceptions.md R736). -/
def pixelShade (p : Ppu) (vram : Memory 8) (line x : Nat) : BitVec 2 :=
  let y := (line + p.scy.toNat) % 256
  let bx := (x + p.scx.toNat) % 256
  let t := Memory.read vram (tileMapBase p + y / 8 * 32 + bx / 8)
  let lo := Memory.read vram (tileDataBase p t + y % 8 * 2)
  let hi := Memory.read vram (tileDataBase p t + y % 8 * 2 + 1)
  let b := 7 - bx % 8
  let ci := bitValue (hi.getLsbD b) * 2 + bitValue (lo.getLsbD b)
  (p.bgp >>> (2 * ci)).setWidth 2
where
  bitValue (v : Bool) : Nat := if v then 1 else 0

/-- The framebuffer with columns `x` to `x + n - 1` of a line drawn. -/
def renderColumns (p : Ppu) (vram : Memory 8) (line : Nat) : Nat → Nat → Memory 2 → Memory 2
  | 0, _, fb => fb
  | n + 1, x, fb =>
    renderColumns p vram line n (x + 1) (Memory.write fb (256 * line + x) (pixelShade p vram line x))

/-- `render_scanline(line)`: all 256 columns of the row (60_exceptions.md R736). -/
def renderScanline (line : Nat) (s : State) : State :=
  { s with ppu := { s.ppu with fb := renderColumns s.ppu s.arrays.vram line 256 0 s.ppu.fb } }

/-- `gate_open()` (60_exceptions.md R733, D10). -/
def gateOpen (s : State) : Bool :=
  match s.params.vblankGate with
  | .always => true
  | .ieBit0 => s.ie.getLsbD 0
  | .lcdcBit7 => s.ppu.lcdc.getLsbD 7

/-- `ppu_mode <- m`. -/
def setMode (m : PpuMode) (s : State) : State := { s with ppu := { s.ppu with mode := m } }

/-- `ly <- v`. -/
def setLy (v : Byte) (s : State) : State := { s with ppu := { s.ppu with ly := v } }

/-- `transition(mode)` (60_exceptions.md R731 to R734). -/
def ppuTransition (s : State) : State :=
  match s.ppu.mode with
  | .oamScan => setMode .pixelTransfer s
  | .pixelTransfer => setMode .hblank (renderScanline s.ppu.ly.toNat s)
  | .hblank =>
    let s := setLy (s.ppu.ly + 1#8) s
    if s.ppu.ly.toNat < 144 then setMode .oamScan s
    else
      let s := setMode .vblank s
      if gateOpen s then requestIrq 0 s else s
  | .vblank =>
    let s := setLy (s.ppu.ly + 1#8) s
    if s.ppu.ly.toNat > 153 then setMode .oamScan (setLy 0#8 s) else s

/-- `ppu_acc <- v`. -/
def setPpuAcc (v : Nat) (s : State) : State := { s with ppu := { s.ppu with acc := v } }

/-- R730's loop. The first argument bounds the rounds; every round takes at least 80 off the accumulator, so a bound of
the accumulator's own value is never reached. -/
def ppuLoop : Nat → State → State
  | 0, s => s
  | n + 1, s =>
    if s.ppu.acc < s.ppu.mode.budget then s
    else ppuLoop n (ppuTransition (setPpuAcc (s.ppu.acc - s.ppu.mode.budget) s))

/-- `ppu_step(c)` (60_exceptions.md R730). -/
def ppuStep (c : Nat) (s : State) : State := ppuLoop (s.ppu.acc + c) (setPpuAcc (s.ppu.acc + c) s)

/-- What the host reads of the framebuffer: the shade of pixel (x, y) (60_exceptions.md R737). -/
def framePixel (s : State) (x y : Nat) : BitVec 2 := Memory.read s.ppu.fb (256 * y + x)

/-- The colour the host shows for a pixel of the visible 160 x 144 corner (60_exceptions.md R737, D19). -/
def hostColour (s : State) (x : Fin 160) (y : Fin 144) : BitVec 24 := Config.shadeRgb (framePixel s x y)

end Sys2Proof.Machine
end

