-- ==== Sys2Proof/Machine/Timer.lean ====
section
/-! DEFINITION. The system timer: `timer_tick(c)` (60_exceptions.md R720, R721). -/

namespace Sys2Proof.Machine

/-- The TIMA period that TAC selects (60_exceptions.md R721, 10_state.md R117). -/
def timaPeriod (tac : Byte) : Nat :=
  match (tac.extractLsb' 0 2).toNat with
  | 0 => 1024
  | 1 => 16
  | 2 => 64
  | _ => 256

/-- The DIV part of a tick. R720's loop takes the period off as often as it fits, which is a quotient and a remainder. -/
def divTick (c : Nat) (s : State) : State :=
  let acc := s.timer.divAcc + c
  { s with timer := { s.timer with div := s.timer.div + BitVec.ofNat 8 (acc / 256), divAcc := acc % 256 } }

/-- One increment of TIMA, with the reload and the request on overflow (60_exceptions.md R721). -/
def timaIncrement (s : State) : State :=
  if s.timer.tima = 0xFF#8 then requestIrq 2 { s with timer := { s.timer with tima := s.timer.tma } }
  else { s with timer := { s.timer with tima := s.timer.tima + 1#8 } }

/-- `n` increments of TIMA. -/
def timaIncrements : Nat → State → State
  | 0, s => s
  | n + 1, s => timaIncrements n (timaIncrement s)

/-- The TIMA part of a tick: R721's loop makes one increment for each whole period and keeps the rest. -/
def timaTick (c : Nat) (s : State) : State :=
  if s.timer.tac.getLsbD 2 then
    let acc := s.timer.timaAcc + c
    let p := timaPeriod s.timer.tac
    timaIncrements (acc / p) { s with timer := { s.timer with timaAcc := acc % p } }
  else s

/-- `timer_tick(c)` (60_exceptions.md R720, R721). -/
def timerTick (c : Nat) (s : State) : State := timaTick c (divTick c s)

end Sys2Proof.Machine
end

