-- ==== Sys2Proof/Machine/System.lean ====
section
/-! DEFINITION. What happens around one instruction: fetching it, the processor step, the interrupt check and the
system step (70_reset_and_hazards.md R820, 60_exceptions.md R707 to R711); and placing an instruction where it is
fetched. -/

namespace Sys2Proof.Machine

/-! ### Fetch -/

/-- The instruction whose bytes stand at PC (30_encoding.md R313, 20_memory.md R222). Reads change nothing (R209), so
looking at all three bytes is the same as fetching only those the instruction has. -/
def fetchInstr (s : State) : Instr :=
  decode3 (read8 s.cpu.pc s) (read8 (s.cpu.pc + 1#16) s) (read8 (s.cpu.pc + 2#16) s)

/-- How many bytes the instruction at PC has. -/
def fetchLength (s : State) : Nat := lengthOf (read8 s.cpu.pc s)

/-- The state with PC past the instruction at PC, which is what a meaning is given (10_state.md R106). -/
def pastInstr (s : State) : State := setPc (s.cpu.pc + BitVec.ofNat 16 (fetchLength s)) s

/-! ### The processor step (70_reset_and_hazards.md R820) -/

/-- The first line of `cpu_step()`: a pending EI sets IME. -/
def applyPendingEi (s : State) : State :=
  if s.cpu.eiPending then { s with cpu := { s.cpu with ime := true, eiPending := false } } else s

/-- `cpu_step()`: the state after one instruction, or after a halted idle, with the cycles it returns. A step that
raises a fault returns none, written 0 (60_exceptions.md R701). -/
def cpuStep (s : State) : Host.Outcome (State × Nat) Fault Refusal :=
  let s0 := applyPendingEi s
  if s0.cpu.runState = .halted then .next (s0, 4)
  else
    match exec (fetchInstr s0) (pastInstr s0) with
    | .next t => .next (t, cycles (fetchInstr s0) (pastInstr s0))
    | .fault f => .fault f
    | .refused r => .refused r

/-! ### The interrupt check (60_exceptions.md R707 to R711) -/

/-- `pending = if_reg & ie & 0x1F` (R707). -/
def pendingSet (s : State) : BitVec 5 := s.ifReg &&& s.ie.setWidth 5

/-- The source serviced: the first of bits 0, 2, 3, 4 that is pending; bit 1 never (R708). -/
def chosenIrq (pending : BitVec 5) : Option IrqSource :=
  if pending.getLsbD 0 then some .vblank
  else if pending.getLsbD 2 then some .timer
  else if pending.getLsbD 3 then some .serial
  else if pending.getLsbD 4 then some .joypad
  else none

/-- The halt wake-up (R711). -/
def wake (s : State) : State := if s.cpu.runState = .halted then setRunState .running s else s

/-- `handle_interrupt()`: the state after the check and the cycles it returns (R709). -/
def handleInterrupt (s : State) : State × Nat :=
  if pendingSet s = 0#5 then (s, 0)
  else
    let s1 := wake s
    if s1.cpu.ime = false then (s1, 0)
    else
      match chosenIrq (pendingSet s) with
      | none => (s1, 0)
      | some k => (takeInterrupt k s1, 20)

/-! ### The system step (60_exceptions.md R710) -/

/-- The timer and then the PPU advance by `c` cycles. -/
def tickDevices (c : Nat) (s : State) : State := ppuStep c (timerTick c s)

/-- The system step from `cpu_step()` on, given its state and cycles (R710). -/
def afterCpu (t : State) (c1 : Nat) : State :=
  if t.cpu.fault ≠ none then t
  else
    let t1 := tickDevices c1 t
    if t1.cpu.runState = .stopped then t1
    else
      let r := handleInterrupt t1
      if r.2 > 0 then tickDevices r.2 r.1 else r.1

/-- `system_step()` (R710). -/
def systemStep (s : State) : Result :=
  if s.cpu.fault ≠ none ∨ s.cpu.runState = .stopped then .next s
  else
    match cpuStep s with
    | .next r => .next (afterCpu r.1 r.2)
    | .fault f => .fault f
    | .refused r => .refused r

/-! ### Placing an instruction where the next step fetches it (log entry 10) -/

/-- The address is backed by an array, so that a byte can be loaded behind it from outside the machine. -/
def isStorage (a : Word) (s : State) : Bool :=
  match route a with
  | .rom _ | .vram _ | .wram _ | .oam _ | .hram _ => true
  | .extRam o => (extramIndex o s).isSome
  | _ => false

/-- Load `v` from outside the machine behind address `a`: a ROM address gets it in the image its read comes from. -/
def plantByte (a : Word) (v : Byte) (s : State) : State :=
  match route a with
  | .rom n =>
    if n < 0x100 ∧ s.bootEnabled = true then
      { s with arrays := { s.arrays with bootrom := Memory.write s.arrays.bootrom n v } }
    else { s with arrays := { s.arrays with rom := Memory.write s.arrays.rom (romIndex n s) v } }
  | _ => write8 a v s

/-- The state running, with PC at three bytes of storage: PC as it is where it can be, else the start of working RAM. -/
def readyToFetch (s : State) : State :=
  let s := { s with cpu := { s.cpu with runState := .running, fault := none } }
  if isStorage s.cpu.pc s && isStorage (s.cpu.pc + 1#16) s && isStorage (s.cpu.pc + 2#16) s then s
  else setPc 0xC000#16 s

/-- The three bytes that the next step fetches first are `b0`, `b1` and `b2`. -/
def plantInstr (b0 b1 b2 : Byte) (s : State) : State :=
  let s := readyToFetch s
  plantByte (s.cpu.pc + 2#16) b2 (plantByte (s.cpu.pc + 1#16) b1 (plantByte s.cpu.pc b0 s))

end Sys2Proof.Machine
end

