-- ==== Sys2Proof/Machine/Step.lean ====
section
/-! DEFINITION. One step of the machine, and the state whose next step runs a given instruction. -/

namespace Sys2Proof.Machine

/-- One system step (60_exceptions.md R710). -/
def step (s : State) : Host.Outcome State Fault Refusal := systemStep s

/-- The state with the instruction of a table row's bits where the next step fetches it, the bits above them 0 (log
entries 2 and 10). -/
def State.withFetchWord (s : State) (nbits w : Nat) : State :=
  let bs := tableBytes nbits w
  plantInstr (bs.getD 0 0#8) (bs.getD 1 0#8) (bs.getD 2 0#8) s

end Sys2Proof.Machine
end

