-- ==== Sys2Proof/Machine/Launch.lean ====
section
/-! DEFINITION. Launching the machine, the host's events, and the informative header checks (70_reset_and_hazards.md
R800 to R802, 60_exceptions.md R751, 20_memory.md R262). None of this is part of a step. -/

namespace Sys2Proof.Machine

/-- The boot ROM as the host brings it to a launch: not asked for, an image it could not load, or the image's bytes
(70_reset_and_hazards.md R801(c), (d)). -/
inductive BootImage where
  | notSupplied
  | failed
  | loaded (bytes : List Byte)
  deriving DecidableEq, Repr

/-- The bytes there are to put into the boot ROM array. -/
def BootImage.bytes : BootImage → List Byte
  | .loaded bs => bs
  | .notSupplied | .failed => []

/-- What the host brings to a launch; a cartridge image it could not load is none (70_reset_and_hazards.md R801). -/
structure LaunchInput where
  rom : Option (List Byte)
  bootRom : BootImage
  params : Params
  deriving DecidableEq, Repr

/-- The POST_BOOT state: three values differ from POWER_ON's (70_reset_and_hazards.md R802). -/
def postBoot (s : State) : State :=
  { s with cpu := { s.cpu with pc := 0x0100#16, sp := 0xFFFE#16 }, bootEnabled := false }

/-- The state a launch mode starts from (70_reset_and_hazards.md R800, R802). -/
def launchState (bootrom rom : Memory 8) (romLen : Nat) (kind : MbcKind) (p : Params) : State :=
  match p.launch with
  | .powerOn => State.powerOn bootrom rom romLen kind p
  | .postBoot => postBoot (State.powerOn bootrom rom romLen kind p)

/-- An image that the host tried to load and could not, whatever the launch mode (70_reset_and_hazards.md R801(d),
60_exceptions.md R700, D34). -/
def loadFailed (i : LaunchInput) : Bool := decide (i.rom = none) || decide (i.bootRom = .failed)

/-- The state a launch starts from, once no premise of R801 stands against it (70_reset_and_hazards.md R800, R802). The
boot ROM array holds 256 bytes; POWER_ON has exactly those, and what POST_BOOT does with more or fewer is log entry 24. -/
def launched (rom : List Byte) (kind : MbcKind) (i : LaunchInput) : State :=
  launchState (Memory.ofList (i.bootRom.bytes.take 256)) (Memory.ofList rom) rom.length kind i.params

/-- Launch, or decline it by name (70_reset_and_hazards.md R800, R801, 20_memory.md R240). POWER_ON needs 256 bytes of
boot ROM; under POST_BOOT it is never mapped, and none need be supplied (log entry 24). -/
def launch (i : LaunchInput) : Host.Outcome State Fault Refusal :=
  if loadFailed i then .refused .loadFailure
  else
    let rom := i.rom.getD []
    if rom.length % 0x4000 ≠ 0 ∨ rom.length < 0x8000 then .refused .romLength
    else
      match mbcKindOf i.params.multicart (rom.getD 0x147 0#8) with
      | none => .refused .unsupportedMbc
      | some kind =>
        if i.params.launch = .powerOn ∧ i.bootRom.bytes.length ≠ 256 then .refused .bootRomLength
        else .next (launched rom kind i)

/-- A full reset: the machine is constructed anew from the same images and parameters; nothing else survives
(70_reset_and_hazards.md R800). -/
def hardReset (s : State) : State :=
  launchState s.arrays.bootrom s.arrays.rom s.arrays.romLen s.mbc.kind s.params

/-- What the host can do between two system steps (60_exceptions.md R710, R751, D38). -/
inductive HostEvent where
  | press (btn : Button)
  | release (btn : Button)
  | reset
  deriving DecidableEq, Repr

/-- A host event's effect. -/
def HostEvent.apply (e : HostEvent) (s : State) : State :=
  match e with
  | .press btn => Machine.press btn s
  | .release btn => Machine.release btn s
  | .reset => hardReset s

/-! ### Header checks, informative: no rule of the core uses them (20_memory.md R262, D42; log entry 14) -/

/-- The 48 reference logo bytes (20_memory.md R262). -/
def logoBytes : List Byte :=
  [0xCE#8, 0xED#8, 0x66#8, 0x66#8, 0xCC#8, 0x0D#8, 0x00#8, 0x0B#8, 0x03#8, 0x73#8, 0x00#8, 0x83#8,
   0x00#8, 0x0C#8, 0x00#8, 0x0D#8, 0x00#8, 0x08#8, 0x11#8, 0x1F#8, 0x88#8, 0x89#8, 0x00#8, 0x0E#8] ++
  [0xDC#8, 0xCC#8, 0x6E#8, 0xE6#8, 0xDD#8, 0xDD#8, 0xD9#8, 0x99#8, 0xBB#8, 0xBB#8, 0x67#8, 0x63#8,
   0x6E#8, 0x0E#8, 0xEC#8, 0xCC#8, 0xDD#8, 0xDC#8, 0x99#8, 0x9F#8, 0xBB#8, 0xB9#8, 0x33#8, 0x3E#8]

/-- `rom[k]` for `n` places from `k` on. -/
def romSlice (rom : Memory 8) (k n : Nat) : List Byte := (List.range n).map (fun j => Memory.read rom (k + j))

/-- `isLogoValid` (20_memory.md R262). -/
def isLogoValid (s : State) : Bool := decide (romSlice s.arrays.rom 0x104 48 = logoBytes)

/-- The header checksum over 0x134 to 0x14C (20_memory.md R262). -/
def headerChecksum (rom : Memory 8) : Byte := (romSlice rom 0x134 25).foldl (fun x v => x - v - 1#8) 0#8

/-- The header checksum is the one stored at 0x14D (20_memory.md R262). -/
def headerChecksumValid (s : State) : Bool :=
  decide (headerChecksum s.arrays.rom = Memory.read s.arrays.rom 0x14D)

/-- The sum of the image's listed bytes but those at 0x14E and 0x14F; an unlisted byte adds 0 (20_memory.md R262). -/
def globalSum : Memory 8 → Nat
  | [] => 0
  | (k, v) :: m => (if k = 0x14E ∨ k = 0x14F then 0 else v.toNat) + globalSum m

/-- The global checksum modulo 0x10000 is the big-endian word at 0x14E (20_memory.md R262). -/
def globalChecksumValid (s : State) : Bool :=
  decide (globalSum s.arrays.rom % 0x10000
    = (Memory.read s.arrays.rom 0x14E).toNat * 256 + (Memory.read s.arrays.rom 0x14F).toNat)

end Sys2Proof.Machine
end

