-- ==== Sys2Proof/Safety.lean ====
section
/-! DEFINITION. The terms claims are made in: the invariant of the machine, the end states, and what a store may change
of what is read. -/

namespace Sys2Proof.Machine

/-- Every array is in canonical form and holds nothing outside its size (10_state.md R111, R127). -/
def State.MemoryCanonical (s : State) : Prop :=
  Memory.wf 0x100 s.arrays.bootrom = true ∧ Memory.wf s.arrays.romLen s.arrays.rom = true ∧
  Memory.wf 0x2000 s.arrays.vram = true ∧ Memory.wf 0x2000 s.arrays.wram = true ∧
  Memory.wf 0xA0 s.arrays.oam = true ∧ Memory.wf 0x7F s.arrays.hram = true ∧
  Memory.wf 0x8000 s.arrays.extram = true ∧ Memory.wf 0x10000 s.ppu.fb = true

/-- The timer accumulators are kept below their periods (10_state.md R125): DIV's is 256; TIMA's is at most 1024, since a
change of rate keeps the accumulator (60_exceptions.md R721). -/
def State.TimerBounded (s : State) : Prop := s.timer.divAcc < 256 ∧ s.timer.timaAcc < 1024

/-- LY is 0 to 153, VBLANK is exactly lines 144 and up, and the accumulator is below the mode's budget (10_state.md R121,
60_exceptions.md R730 to R734). -/
def State.PpuConsistent (s : State) : Prop :=
  s.ppu.ly.toNat ≤ 153 ∧ (s.ppu.mode = .vblank ↔ 144 ≤ s.ppu.ly.toNat) ∧ s.ppu.acc < s.ppu.mode.budget

/-- The bits that a write never stores are 0: STAT's outside 6..3 and P1's outside 5..4 (10_state.md R119, R123). -/
def State.ReservedClear (s : State) : Prop := s.ppu.statSel &&& 0x87#8 = 0#8 ∧ s.joypad.select &&& 0xCF#8 = 0#8

/-- Rows 144 to 255 of the framebuffer keep their reset value 0 (60_exceptions.md R736). -/
def State.HiddenRowsBlank (s : State) : Prop := ∀ y x, 144 ≤ y → y < 256 → x < 256 → framePixel s x y = 0#2

/-- The invariant of the machine. -/
def State.Inv (s : State) : Prop :=
  s.MemoryCanonical ∧ s.TimerBounded ∧ s.PpuConsistent ∧ s.ReservedClear ∧ s.HiddenRowsBlank

/-- The two end states: faulted, and stopped (60_exceptions.md R701, R762). -/
def State.Ended (s : State) : Prop := s.cpu.fault ≠ none ∨ s.cpu.runState = .stopped

/-- Two addresses name the same byte: they are equal, or both lie in working RAM and its echo and agree modulo 0x2000
(20_memory.md R214). -/
def sameByte (a b : Word) : Prop :=
  a = b ∨ (0xC000 ≤ a.toNat ∧ a.toNat < 0xFE00 ∧ 0xC000 ≤ b.toNat ∧ b.toNat < 0xFE00 ∧ a.toNat % 0x2000 = b.toNat % 0x2000)

/-- A store to `b` may change what a read of `a` gives: it is the same byte; or `b` is an MBC control address and `a` lies
in a window the MBC switches; or `b` is the boot latch and `a` lies in the boot ROM's window (20_memory.md R203, R210,
R245; 10_state.md R124). -/
def affectedBy (b a : Word) : Prop :=
  sameByte a b ∨
  (b.toNat < 0x8000 ∧ ((0x4000 ≤ a.toNat ∧ a.toNat < 0x8000) ∨ (0xA000 ≤ a.toNat ∧ a.toNat < 0xC000))) ∨
  (b = 0xFF50#16 ∧ a.toNat < 0x100)

/-- An address at which a read gives what was last written: VRAM, working RAM and its echo, OAM, HRAM, and the registers
that store the whole byte (20_memory.md R203). -/
def isPlainStore (a : Word) : Bool :=
  match route a with
  | .vram _ | .wram _ | .oam _ | .hram _ => true
  | .tima | .tma | .tac | .lcdc | .scy | .scx | .bgp | .ie => true
  | _ => false

/-! ### What an instruction's rule says of it, as one statement -/

/-- The row of an instruction: its bytes, its cycle cost, and its effect on every state, which is a next state. -/
def RowSays (i : Instr) (bytes : List Byte) (cost : State → Nat) (effect : State → State) : Prop :=
  encode i = bytes ∧ ∀ s, cycles i s = cost s ∧ exec i s = .next (effect s)

/-- The r8 field's codes (30_encoding.md R303). -/
def r8Code : Operand8 → Byte
  | .reg .b => 0#8 | .reg .c => 1#8 | .reg .d => 2#8 | .reg .e => 3#8
  | .reg .h => 4#8 | .reg .l => 5#8 | .atHl => 6#8 | .reg .a => 7#8

/-- The pair field's codes (30_encoding.md R304). -/
def pairCode : Pair → Byte
  | .bc => 0#8 | .de => 1#8 | .hl => 2#8 | .sp => 3#8

/-- The pair field's codes of PUSH and POP (30_encoding.md R304). -/
def stackPairCode : StackPair → Byte
  | .bc => 0#8 | .de => 1#8 | .hl => 2#8 | .af => 3#8

/-- The condition field's codes (30_encoding.md R305). -/
def condCode : Cond → Byte
  | .nz => 0#8 | .z => 1#8 | .nc => 2#8 | .c => 3#8

/-- A cost that is `hl` for the (HL) form and `reg` for a register. -/
def costOf (o : Operand8) (reg hl : Nat) : State → Nat := fun _ => if o = .atHl then hl else reg

/-- The state with A and the flags replaced and nothing else changed. -/
def withAF (a : Byte) (f : Flags) (s : State) : State := { s with cpu := { s.cpu with a := a, f := f } }

/-- The addresses an instruction stores to, in a state with PC past it. -/
def storeAddrs (i : Instr) (s : State) : List Word :=
  match i with
  | .ldAtHlIncA | .ldAtHlDecA | .incAtHl | .decAtHl | .ldAtHlB | .ldAtHlC | .ldAtHlD | .ldAtHlE => [getHl s]
  | .ldAtHlH | .ldAtHlL | .ldAtHlA | .rlcAtHl | .rrcAtHl | .rlAtHl | .rrAtHl | .slaAtHl => [getHl s]
  | .sraAtHl | .swapAtHl | .srlAtHl | .res0AtHl | .res1AtHl | .res2AtHl | .res3AtHl | .res4AtHl => [getHl s]
  | .res5AtHl | .res6AtHl | .res7AtHl | .set0AtHl | .set1AtHl | .set2AtHl | .set3AtHl | .set4AtHl => [getHl s]
  | .set5AtHl | .set6AtHl | .set7AtHl => [getHl s]
  | .ldAtHlN8 _ => [getHl s]
  | .ldAtBcA => [getPair .bc s]
  | .ldAtDeA => [getPair .de s]
  | .ldAtN16A n => [n]
  | .ldhAtN8A n => [highPage n]
  | .ldAtCA => [highPage s.cpu.c]
  | .ldAtN16Sp n => [n, n + 1#16]
  | .pushBc | .rst00 | .callN16 _ | .rst08 | .pushDe | .rst10 | .rst18 | .pushHl | .rst20 | .rst28 | .pushAf | .rst30 | .rst38 =>
    [s.cpu.sp - 2#16, s.cpu.sp - 1#16]
  | .callNzN16 _ => if condHolds .nz s.cpu.f then [s.cpu.sp - 2#16, s.cpu.sp - 1#16] else []
  | .callZN16 _ => if condHolds .z s.cpu.f then [s.cpu.sp - 2#16, s.cpu.sp - 1#16] else []
  | .callNcN16 _ => if condHolds .nc s.cpu.f then [s.cpu.sp - 2#16, s.cpu.sp - 1#16] else []
  | .callCN16 _ => if condHolds .c s.cpu.f then [s.cpu.sp - 2#16, s.cpu.sp - 1#16] else []
  | .prefixCb =>
    if fieldZ (read8 s.cpu.pc s) = 6 ∧ fieldX (read8 s.cpu.pc s) ≠ 1 then [getHl s] else []
  | _ => []

end Sys2Proof.Machine
end

