-- ==== Sys2Proof/Certificates/Slice0/Obligations.lean ====
section
/-! DEFINITION. The statements for the provers. Each docstring names the rules of spec/ it formalises; OBLIGATIONS.json
lists them with the sentences they quote. -/

open Sys2Proof Sys2Proof.Machine

/-! ### Encoding and fetching -/

/-- Decoding the bytes of a complete instruction, whatever follows them, gives it back with every operand
(30_encoding.md R300 to R313). -/
def Obligations.DecodeOfEncode : Prop :=
  ∀ (i : Instr) (rest : List Byte), i.WellFormed → decodeBytes (encode i ++ rest) = .instr i rest

/-- What the decoder accepts is the encoding of its answer: each byte string has one meaning. -/
def Obligations.EncodeOfDecode : Prop :=
  ∀ (bs rest : List Byte) (i : Instr), decodeBytes bs = .instr i rest → bs = encode i ++ rest

/-- The first byte fixes the length; 0xCB reads the CB table by the next byte with length 2; an undefined byte has
length 1; 0x76 is HALT (R301, R313). -/
def Obligations.FirstByteFixesLength : Prop :=
  ∀ op b1 b2 : Byte,
    (decode3 op b1 b2).length = lengthOf op ∧ 1 ≤ lengthOf op ∧ lengthOf op ≤ 3 ∧
    (op = 0xCB#8 → decode3 op b1 b2 = decodeCb b1 ∧ lengthOf op = 2) ∧
    (op ∈ undefinedOpcodes → lengthOf op = 1) ∧
    (op = 0x76#8 → decode3 op b1 b2 = .halt)

/-- Exactly the eleven bytes of R311 decode to an undefined opcode, each to its own, and no byte after 0xCB does; such a
row is its one byte, and its whole effect is the fault recorded with it (R311, R656; which bytes they are is the spec's
decision D3). -/
def Obligations.UndefinedOpcodesAreEleven : Prop :=
  (∀ op b1 b2 : Byte,
    (decode3 op b1 b2).undefinedOpcode? = if op ∈ undefinedOpcodes then some op else none) ∧
  (∀ op2 : Byte, (decodeCb op2).undefinedOpcode? = none) ∧
  (∀ (i : Instr) (op : Byte), i.undefinedOpcode? = some op →
    encode i = [op] ∧
    ∀ s : State, exec i s = .next { s with cpu := { s.cpu with fault := some (.unhandledOpcode op) } })

/-- Words written out from the encodings of the family rules decode to the instructions they stand for. -/
def Obligations.SampleWordsDecode : Prop :=
  decode3 0x80#8 0#8 0#8 = .addAB ∧ decode3 0x9E#8 0#8 0#8 = .sbcAAtHl ∧ decode3 0x34#8 0#8 0#8 = .incAtHl ∧
  decode3 0x29#8 0#8 0#8 = .addHlHl ∧ decode3 0xE8#8 0xFE#8 0#8 = .addSpE8 0xFE#8 ∧
  decode3 0x1F#8 0#8 0#8 = .rra ∧ decode3 0xCB#8 0x37#8 0#8 = .swapA ∧ decode3 0xCB#8 0x7E#8 0#8 = .bit7AtHl ∧
  decode3 0xC3#8 0x50#8 0x01#8 = .jpN16 0x0150#16 ∧ decode3 0x20#8 0xFC#8 0#8 = .jrNzE8 0xFC#8 ∧
  decode3 0xF1#8 0#8 0#8 = .popAf ∧ decode3 0x31#8 0xFE#8 0xFF#8 = .ldSpN16 0xFFFE#16 ∧
  decode3 0xE2#8 0#8 0#8 = .ldAtCA ∧ decode3 0x10#8 0#8 0#8 = .stop 0#8 ∧ decode3 0xD3#8 0#8 0#8 = .illegalD3

/-- A step runs the decoded instruction: when the bytes at PC decode to a complete instruction, a machine that is
neither ended nor halted gives its meaning the state with a pending EI applied and PC past its bytes; then, unless a
fault was raised, the timer and the PPU advance by its cost, and unless it has stopped the machine, the interrupt check
runs and its cycles are ticked too (60_exceptions.md R710, 70_reset_and_hazards.md R820; the order is the spec's decision
D5). -/
def Obligations.StepRunsTheDecodedInstruction : Prop :=
  ∀ (s t : State) (i : Instr) (rest : List Byte),
    let s0 := applyPendingEi s
    let s1 := setPc (s0.cpu.pc + BitVec.ofNat 16 i.length) s0
    ¬ s.Ended → s.cpu.runState ≠ .halted → i.WellFormed →
    decodeBytes [read8 s0.cpu.pc s0, read8 (s0.cpu.pc + 1#16) s0, read8 (s0.cpu.pc + 2#16) s0] = .instr i rest →
    exec i s1 = .next t →
    step s = .next (
      if t.cpu.fault ≠ none then t
      else
        let u := ppuStep (cycles i s1) (timerTick (cycles i s1) t)
        if u.cpu.runState = .stopped then u
        else
          let r := handleInterrupt u
          if r.2 > 0 then ppuStep r.2 (timerTick r.2 r.1) else r.1)

/-- A halted machine's step costs 4 cycles without fetching, then runs the interrupt check (R651, R820); a faulted or
stopped machine's step changes nothing (R701, R762). That STOP ends the run is the spec's decision D9, that a pending EI is
applied in a halted step too its decision D44. -/
def Obligations.HaltedAndEndedSteps : Prop :=
  (∀ s : State, s.Ended → step s = .next s) ∧
  (∀ s : State, s.cpu.fault = none → s.cpu.runState = .halted →
    step s = .next (
      let u := ppuStep 4 (timerTick 4 (applyPendingEi s))
      let r := handleInterrupt u
      if r.2 > 0 then ppuStep r.2 (timerTick r.2 r.1) else r.1))

/-- The prefix row: with PC past 0xCB, running it is running the CB table's instruction for the byte at PC, with that
instruction's cost; the two bytes are that instruction's whole encoding (R655). -/
def Obligations.PrefixRunsTheCbTable : Prop :=
  ∀ (s : State) (op2 : Byte), read8 s.cpu.pc s = op2 →
    (∃ t, exec (decodeCb op2) (setPc (s.cpu.pc + 1#16) s) = .next t ∧ exec .prefixCb s = .next t) ∧
    cycles .prefixCb s = cycles (decodeCb op2) (setPc (s.cpu.pc + 1#16) s) ∧
    encode (decodeCb op2) = encode .prefixCb ++ [op2]

/-- An undefined opcode: the step leaves PC one past it with the fault recorded, and beside a pending EI taking effect
nothing else changes, no device among it (R656, R701). That the pending EI is applied before the fault is the model's
reading of R820 (log entry 15). -/
def Obligations.UndefinedOpcodeStep : Prop :=
  ∀ (s : State) (op : Byte), ¬ s.Ended → s.cpu.runState ≠ .halted →
    read8 s.cpu.pc s = op → op ∈ undefinedOpcodes →
    step s = .next { s with
      cpu := { s.cpu with
        pc := s.cpu.pc + 1#16
        ime := s.cpu.ime || s.cpu.eiPending
        eiPending := false
        fault := some (.unhandledOpcode op) } }

/-! ### Registers and reset -/

/-- The flag byte: bit k of it for each flag, the low nibble 0, and pack(unpack(b)) = b & 0xF0 (R103). -/
def Obligations.FlagBytePacking : Prop :=
  (∀ f : Flags, (packFlags f).toNat =
    (if f.z then 128 else 0) + (if f.n then 64 else 0) + (if f.h then 32 else 0) + (if f.c then 16 else 0)) ∧
  (∀ f : Flags, unpackFlags (packFlags f) = f) ∧
  (∀ b : Byte, packFlags (unpackFlags b) = b &&& 0xF0#8)

/-- The registers are independent bytes: each is its own field, and a write to one leaves the whole rest of the state as it
was (R100). The pairs are the halves concatenated, a write splits, and a write to one half is seen in the pair at once
(R101); AF reads the packed flags and a write loses the low nibble (R102); the pair code 3 names SP itself (R105). -/
def Obligations.RegistersAndPairs : Prop :=
  (∀ s : State, getReg .a s = s.cpu.a ∧ getReg .b s = s.cpu.b ∧ getReg .c s = s.cpu.c ∧ getReg .d s = s.cpu.d ∧
    getReg .e s = s.cpu.e ∧ getReg .h s = s.cpu.h ∧ getReg .l s = s.cpu.l) ∧
  (∀ (s : State) (v : Byte),
    setReg .a v s = { s with cpu := { s.cpu with a := v } } ∧ setReg .b v s = { s with cpu := { s.cpu with b := v } } ∧
    setReg .c v s = { s with cpu := { s.cpu with c := v } } ∧ setReg .d v s = { s with cpu := { s.cpu with d := v } } ∧
    setReg .e v s = { s with cpu := { s.cpu with e := v } } ∧ setReg .h v s = { s with cpu := { s.cpu with h := v } } ∧
    setReg .l v s = { s with cpu := { s.cpu with l := v } }) ∧
  (∀ (s : State) (r q : Reg8) (v : Byte), getReg q (setReg r v s) = if q = r then v else getReg q s) ∧
  (∀ (s : State) (f : Flags), setFlags f s = { s with cpu := { s.cpu with f := f } }) ∧
  (∀ (s : State) (v : Word), setPc v s = { s with cpu := { s.cpu with pc := v } }) ∧
  (∀ v : Word, (hiByte v).toNat = v.toNat / 256 ∧ (loByte v).toNat = v.toNat % 256) ∧
  (∀ s : State, (getPair .bc s).toNat = s.cpu.b.toNat * 256 + s.cpu.c.toNat ∧
    (getPair .de s).toNat = s.cpu.d.toNat * 256 + s.cpu.e.toNat ∧
    (getPair .hl s).toNat = s.cpu.h.toNat * 256 + s.cpu.l.toNat ∧ getPair .sp s = s.cpu.sp ∧
    (getStackPair .af s).toNat = s.cpu.a.toNat * 256 + (packFlags s.cpu.f).toNat ∧
    getStackPair .bc s = getPair .bc s ∧ getStackPair .de s = getPair .de s ∧ getStackPair .hl s = getPair .hl s) ∧
  (∀ (s : State) (v : Word),
    setPair .bc v s = setReg .b (hiByte v) (setReg .c (loByte v) s) ∧
    setPair .de v s = setReg .d (hiByte v) (setReg .e (loByte v) s) ∧
    setPair .hl v s = setReg .h (hiByte v) (setReg .l (loByte v) s) ∧
    setPair .sp v s = { s with cpu := { s.cpu with sp := v } } ∧
    setStackPair .af v s = setReg .a (hiByte v) (setFlags (unpackFlags (loByte v)) s) ∧
    setStackPair .bc v s = setPair .bc v s ∧ setStackPair .de v s = setPair .de v s ∧
    setStackPair .hl v s = setPair .hl v s) ∧
  (∀ (s : State) (p : Pair) (v : Word), getPair p (setPair p v s) = v) ∧
  (∀ (s : State) (v : Word), getStackPair .af (setStackPair .af v s) = v &&& 0xFFF0#16)

/-- R130's table at reset, for any images, variant and parameters, and POST_BOOT's three differences (R802). The
values 0 of registers and RAM are the spec's own decision D28 (log entries 4 and 5); `State.reset`'s empty images are the
model's choice (log entry 1). A reset of a running machine gives the launch state again and is a way out of a fault and
out of Stopped (R800, R109, R110); that it uses the images, the variant and the parameters of the launch is the model's
reading (log entry 22). -/
def Obligations.ResetAndPostBootValues : Prop :=
  (∀ (boot rom : Memory 8) (n : Nat) (k : MbcKind) (p : Params),
    let s := State.powerOn boot rom n k p
    (∀ r, getReg r s = 0#8) ∧ packFlags s.cpu.f = 0#8 ∧ s.cpu.sp = 0#16 ∧ s.cpu.pc = 0#16 ∧ s.cpu.ime = false ∧
    s.cpu.eiPending = false ∧ s.cpu.runState = .running ∧ s.cpu.fault = none ∧
    (∀ a, Memory.read s.arrays.vram a = 0#8 ∧ Memory.read s.arrays.wram a = 0#8 ∧ Memory.read s.arrays.oam a = 0#8 ∧
      Memory.read s.arrays.hram a = 0#8 ∧ Memory.read s.arrays.extram a = 0#8) ∧
    s.ifReg = 0#5 ∧ read8 0xFF0F#16 s = 0xE0#8 ∧ s.ie = 0#8 ∧ s.timer = ⟨0#8, 0#8, 0#8, 0#8, 0, 0⟩ ∧
    s.ppu.statSel = 0#8 ∧ read8 0xFF41#16 s = 0x82#8 ∧
    s.joypad.select = 0#8 ∧ s.joypad.dirNibble = 0xF#4 ∧ s.joypad.actNibble = 0xF#4 ∧ read8 0xFF00#16 s = 0xCF#8 ∧
    s.ppu.lcdc = 0#8 ∧ s.ppu.scy = 0#8 ∧ s.ppu.scx = 0#8 ∧
    s.ppu.ly = 0#8 ∧ s.ppu.bgp = 0#8 ∧ s.ppu.mode = .oamScan ∧ s.ppu.acc = 0 ∧ (∀ x y, framePixel s x y = 0#2) ∧
    s.mbc = ⟨k, 0#5, 0#2, 0#1, false⟩ ∧ s.bootEnabled = true ∧
    s.arrays.bootrom = boot ∧ s.arrays.rom = rom ∧ s.arrays.romLen = n ∧ s.params = p ∧
    postBoot s = { s with cpu := { s.cpu with pc := 0x0100#16, sp := 0xFFFE#16 }, bootEnabled := false }) ∧
  State.reset = State.powerOn [] [] 0x8000 .noMbc Params.default ∧
  (∀ s : State,
    let fresh := State.powerOn s.arrays.bootrom s.arrays.rom s.arrays.romLen s.mbc.kind s.params
    HostEvent.reset.apply s = (match s.params.launch with | .powerOn => fresh | .postBoot => postBoot fresh) ∧
    ¬ (HostEvent.reset.apply s).Ended)

/-- The machine's invariant holds at `State.reset`. -/
def Obligations.ResetMeetsTheInvariant : Prop := State.reset.Inv

/-- Every step keeps the invariant: canonical memory inside its sizes, timer accumulators below their periods, LY, mode and
PPU accumulator consistent, reserved bits clear, hidden framebuffer rows blank. -/
def Obligations.StepKeepsTheInvariant : Prop := ∀ s t : State, s.Inv → step s = .next t → t.Inv

/-- A press, a release and a full reset keep the invariant. -/
def Obligations.HostEventsKeepTheInvariant : Prop := ∀ (e : HostEvent) (s : State), s.Inv → (e.apply s).Inv

/-- Launching. It is refused by name if an image failed to load, the boot ROM's under POST_BOOT too (R801(d), D34); if the
ROM's length is not a multiple of 0x4000 or is below 0x8000 (R801(a), D43); if the header names no supported type (R801(b),
R240, D25); or if POWER_ON has no 256-byte boot ROM (R801(c), D37). Otherwise it goes through, from R800's state or from
R802's; that POST_BOOT takes a launch without a boot ROM, or with one of another length cut to 256 bytes, is log entry 24
(DESIGN CHOICE). What it starts holds the images, the variant and the parameters and meets the invariant. -/
def Obligations.LaunchPremises : Prop :=
  ∀ i : LaunchInput,
    match i.rom with
    | none => launch i = .refused .loadFailure
    | some rom =>
      let boot := match i.bootRom with | .loaded b => b | _ => []
      if i.bootRom = .failed then launch i = .refused .loadFailure
      else if rom.length % 0x4000 ≠ 0 ∨ rom.length < 0x8000 then launch i = .refused .romLength
      else if (rom.getD 0x147 0#8).toNat > 3 then launch i = .refused .unsupportedMbc
      else if i.params.launch = .powerOn ∧ boot.length ≠ 256 then launch i = .refused .bootRomLength
      else
        let kind : MbcKind :=
          if (rom.getD 0x147 0#8).toNat = 0 then .noMbc else if i.params.multicart then .mbc1Multicart else .mbc1
        ∃ bootMem romMem : Memory 8,
          let fresh := State.powerOn bootMem romMem rom.length kind i.params
          let s := if i.params.launch = .powerOn then fresh else postBoot fresh
          launch i = .next s ∧ s.Inv ∧ s.params = i.params ∧ s.arrays.romLen = rom.length ∧ s.mbc.kind = kind ∧
          (∀ k, Memory.read s.arrays.rom k = rom.getD k 0#8) ∧
          (∀ k, Memory.read s.arrays.bootrom k = if k < 256 then boot.getD k 0#8 else 0#8) ∧
          s.cpu.pc = (if i.params.launch = .powerOn then 0#16 else 0x0100#16) ∧
          s.bootEnabled = decide (i.params.launch = .powerOn)

/-! ### Memory -/

/-- The read column of R203's table. The value of unmapped I/O is the launch parameter (D14) and STAT's layout, the mode codes
of R119 among it, is D13. -/
def Obligations.AddressMapReads : Prop :=
  ∀ (s : State) (a : Word),
    let n := a.toNat
    read8 a s =
      if n < 0x100 ∧ s.bootEnabled = true then Memory.read s.arrays.bootrom n
      else if n < 0x8000 then mbcReadRom n s
      else if n < 0xA000 then Memory.read s.arrays.vram (n - 0x8000)
      else if n < 0xC000 then mbcReadRam (n - 0xA000) s
      else if n < 0xFE00 then Memory.read s.arrays.wram (a &&& 0x1FFF#16).toNat
      else if n < 0xFEA0 then Memory.read s.arrays.oam (n - 0xFE00)
      else if n < 0xFF00 then 0x00#8
      else if n = 0xFF00 then p1Read s.joypad
      else if n = 0xFF04 then s.timer.div
      else if n = 0xFF05 then s.timer.tima
      else if n = 0xFF06 then s.timer.tma
      else if n = 0xFF07 then s.timer.tac
      else if n = 0xFF0F then BitVec.ofNat 8 (s.ifReg.toNat + 0xE0)
      else if n = 0xFF40 then s.ppu.lcdc
      else if n = 0xFF41 then
        0x80#8 ||| s.ppu.statSel |||
          (match s.ppu.mode with | .hblank => 0#8 | .vblank => 1#8 | .oamScan => 2#8 | .pixelTransfer => 3#8)
      else if n = 0xFF42 then s.ppu.scy
      else if n = 0xFF43 then s.ppu.scx
      else if n = 0xFF44 then s.ppu.ly
      else if n = 0xFF47 then s.ppu.bgp
      else if n < 0xFF80 then s.params.unmappedRead
      else if n < 0xFFFF then Memory.read s.arrays.hram (n - 0xFF80)
      else s.ie

/-- The write column of R203's table: the one place each write changes, with the whole state otherwise as it was. The
masks are D29, D13 and D31, the ignored LY write D15. -/
def Obligations.AddressMapWrites : Prop :=
  ∀ (s : State) (a : Word) (v : Byte),
    let n := a.toNat
    write8 a v s =
      if n < 0x8000 then mbcWriteControl n v s
      else if n < 0xA000 then
        { s with arrays := { s.arrays with vram := Memory.write s.arrays.vram (n - 0x8000) v } }
      else if n < 0xC000 then mbcWriteRam (n - 0xA000) v s
      else if n < 0xFE00 then
        { s with arrays := { s.arrays with wram := Memory.write s.arrays.wram (a &&& 0x1FFF#16).toNat v } }
      else if n < 0xFEA0 then
        { s with arrays := { s.arrays with oam := Memory.write s.arrays.oam (n - 0xFE00) v } }
      else if n = 0xFF00 then { s with joypad := { s.joypad with select := v &&& 0x30#8 } }
      else if n = 0xFF04 then { s with timer := { s.timer with div := 0#8, divAcc := 0, timaAcc := 0 } }
      else if n = 0xFF05 then { s with timer := { s.timer with tima := v } }
      else if n = 0xFF06 then { s with timer := { s.timer with tma := v } }
      else if n = 0xFF07 then { s with timer := { s.timer with tac := v } }
      else if n = 0xFF0F then { s with ifReg := BitVec.ofNat 5 v.toNat }
      else if n = 0xFF40 then { s with ppu := { s.ppu with lcdc := v } }
      else if n = 0xFF41 then { s with ppu := { s.ppu with statSel := v &&& 0x78#8 } }
      else if n = 0xFF42 then { s with ppu := { s.ppu with scy := v } }
      else if n = 0xFF43 then { s with ppu := { s.ppu with scx := v } }
      else if n = 0xFF47 then { s with ppu := { s.ppu with bgp := v } }
      else if n = 0xFF50 then { s with bootEnabled := false }
      else if n < 0xFF80 then s
      else if n < 0xFFFF then
        { s with arrays := { s.arrays with hram := Memory.write s.arrays.hram (n - 0xFF80) v } }
      else { s with ie := v }

/-- A read of the byte last written gives the value written, through either address of an echoed byte, wherever the map
stores the whole byte (R203, R214, R220). -/
def Obligations.StoreThenLoad : Prop :=
  ∀ (s : State) (a b : Word) (v : Byte), isPlainStore a = true → sameByte a b → read8 b (write8 a v s) = v

/-- A store leaves what every address reads alone, but for the addresses it may affect; and it leaves the processor, the
images, the parameters, the framebuffer, the PPU's mode, line and accumulator and the buttons alone (R203, R210, R212). -/
def Obligations.StoreFrame : Prop :=
  (∀ (s : State) (b a : Word) (v : Byte), ¬ affectedBy b a → read8 a (write8 b v s) = read8 a s) ∧
  (∀ (s : State) (b : Word) (v : Byte),
    let t := write8 b v s
    t.cpu = s.cpu ∧ t.params = s.params ∧ t.mbc.kind = s.mbc.kind ∧
    t.arrays.rom = s.arrays.rom ∧ t.arrays.romLen = s.arrays.romLen ∧ t.arrays.bootrom = s.arrays.bootrom ∧
    t.ppu.fb = s.ppu.fb ∧ t.ppu.mode = s.ppu.mode ∧ t.ppu.acc = s.ppu.acc ∧ t.ppu.ly = s.ppu.ly ∧
    t.joypad.dirNibble = s.joypad.dirNibble ∧ t.joypad.actNibble = s.joypad.actNibble)

/-- Echo RAM: for each offset below 0x1E00 a write through either address is seen through the other, and a write at
0xDE00 or above, up to 0xDFFF, is seen nowhere else (R214). -/
def Obligations.EchoRam : Prop :=
  (∀ (s : State) (o : Nat) (v : Byte), o < 0x1E00 →
    read8 (BitVec.ofNat 16 (0xE000 + o)) (write8 (BitVec.ofNat 16 (0xC000 + o)) v s) = v ∧
    read8 (BitVec.ofNat 16 (0xC000 + o)) (write8 (BitVec.ofNat 16 (0xE000 + o)) v s) = v) ∧
  (∀ (s : State) (o : Nat) (v : Byte) (a : Word), 0x1E00 ≤ o → o < 0x2000 → a ≠ BitVec.ofNat 16 (0xC000 + o) →
    read8 a (write8 (BitVec.ofNat 16 (0xC000 + o)) v s) = read8 a s)

/-- Words: two byte accesses, the low byte at the lower address and first, the second address wrapping (R204; the order and
the wrap are the spec's decision D27). -/
def Obligations.WordAccess : Prop :=
  (∀ (s : State) (a : Word),
    (read16 a s).toNat = (read8 (BitVec.ofNat 16 (a.toNat + 1)) s).toNat * 256 + (read8 a s).toNat) ∧
  (∀ (s : State) (a v : Word),
    write16 a v s = write8 (BitVec.ofNat 16 (a.toNat + 1)) (BitVec.ofNat 8 (v.toNat / 256))
      (write8 a (BitVec.ofNat 8 v.toNat) s)) ∧
  (∀ (s : State) (a v : Word), isPlainStore a = true → isPlainStore (a + 1#16) = true →
    read16 a (write16 a v s) = v)

/-- Control writes, to any address below 0x8000: without an MBC they are ignored (R242, by decision D26); with either MBC1
variant they set RAM enable, the primary bank, the secondary register or the mode (R246 to R249, R253; the ranges are R245's,
decision D20). -/
def Obligations.Mbc1ControlWrites : Prop :=
  ∀ (s : State) (a : Word) (v : Byte), a.toNat < 0x8000 →
    write8 a v s =
      if s.mbc.kind = .noMbc then s
      else
        { s with mbc :=
          if a.toNat < 0x2000 then { s.mbc with ramEnable := decide (v.toNat % 16 = 0xA) }
          else if a.toNat < 0x4000 then { s.mbc with bankLo := BitVec.ofNat 5 v.toNat }
          else if a.toNat < 0x6000 then { s.mbc with bankHi := BitVec.ofNat 2 v.toNat }
          else { s.mbc with mode := BitVec.ofNat 1 v.toNat } }

/-- The ROM windows: bank 0 below 0x4000 in both modes; above, the effective bank modulo the number of banks, the primary
register bumped from 0 to 1, the secondary register joined in mode 0 only, by 5 bits or by 4 for the multicart
(R242 to R244, R252, R253; decisions D21 to D23). The effective bank of MBC1 is never a multiple of 0x20. -/
def Obligations.RomWindows : Prop :=
  (∀ (s : State) (n : Nat), n < 0x4000 → mbcReadRom n s = Memory.read s.arrays.rom n) ∧
  (∀ (s : State) (n : Nat), s.mbc.kind = .noMbc → mbcReadRom n s = Memory.read s.arrays.rom n) ∧
  (∀ (s : State) (n : Nat), 0x4000 ≤ n → s.mbc.kind ≠ .noMbc →
    mbcReadRom n s =
      let lo := if s.mbc.bankLo.toNat = 0 then 1 else s.mbc.bankLo.toNat
      let bank :=
        if s.mbc.mode.toNat = 1 then lo
        else if s.mbc.kind = .mbc1 then s.mbc.bankHi.toNat * 32 + lo
        else s.mbc.bankHi.toNat * 16 + lo % 16
      Memory.read s.arrays.rom (bank % (s.arrays.romLen / 0x4000) * 0x4000 + (n - 0x4000))) ∧
  (∀ m : Mbc, m.kind = .mbc1 → romBank m % 0x20 ≠ 0)

/-- External RAM: it reads 0xFF and drops writes unless MBC1 RAM is present and enabled; else the bank of the secondary
register in mode 1 and bank 0 in mode 0 (R250, R251, with 32 KiB by decision D24; No-MBC has none, R242 by D26). -/
def Obligations.ExternalRam : Prop :=
  ∀ (s : State) (a : Word) (v : Byte), 0xA000 ≤ a.toNat → a.toNat < 0xC000 →
    if s.mbc.kind ≠ .noMbc ∧ Memory.read s.arrays.rom 0x149 ≠ 0#8 ∧ s.mbc.ramEnable = true then
      let k := (if s.mbc.mode.toNat = 1 then s.mbc.bankHi.toNat else 0) * 0x2000 + (a.toNat - 0xA000)
      k < 0x8000 ∧ read8 a s = Memory.read s.arrays.extram k ∧ read8 a (write8 a v s) = v ∧
      write8 a v s = { s with arrays := { s.arrays with extram := Memory.write s.arrays.extram k v } }
    else read8 a s = 0xFF#8 ∧ write8 a v s = s

/-! ### Whole-machine rules over every instruction -/

/-- No instruction refuses or faults in the host's sense, and neither does any step: undefined opcodes and end states are
next states too (R657, R701, R703). -/
def Obligations.EveryInstructionAndStepCompletes : Prop :=
  (∀ (i : Instr) (s : State), ∃ t, exec i s = .next t) ∧ (∀ s : State, ∃ t, step s = .next t)

/-- What an instruction stores: a read of any address that none of its stores may affect gives what it gave before; an
instruction that stores nothing changes no read at all. -/
def Obligations.InstructionMemoryFrame : Prop :=
  ∀ (i : Instr) (s t : State) (a : Word), exec i s = .next t →
    (∀ b ∈ storeAddrs i s, ¬ affectedBy b a) → read8 a t = read8 a s

/-- Control state an instruction may change: IME only DI and RETI, the EI latch only EI, the run state only HALT and
STOP, the fault only an undefined opcode; images, parameters, MBC variant, framebuffer, PPU mode, line and accumulator,
and buttons none; the boot latch only goes off (R107 to R110, R124). The prefix byte alone is one of its CB
instructions. -/
def Obligations.InstructionControlFrame : Prop :=
  ∀ (i : Instr) (s t : State), exec i s = .next t →
    (i ≠ .di → i ≠ .reti → t.cpu.ime = s.cpu.ime) ∧
    (i ≠ .ei → t.cpu.eiPending = s.cpu.eiPending) ∧
    (i ≠ .halt → (∀ n, i ≠ .stop n) → t.cpu.runState = s.cpu.runState) ∧
    (i.undefinedOpcode? = none → t.cpu.fault = s.cpu.fault) ∧
    t.params = s.params ∧ t.mbc.kind = s.mbc.kind ∧ t.arrays.rom = s.arrays.rom ∧
    t.arrays.romLen = s.arrays.romLen ∧ t.arrays.bootrom = s.arrays.bootrom ∧
    t.ppu.fb = s.ppu.fb ∧ t.ppu.mode = s.ppu.mode ∧ t.ppu.acc = s.ppu.acc ∧ t.ppu.ly = s.ppu.ly ∧
    t.joypad.dirNibble = s.joypad.dirNibble ∧ t.joypad.actNibble = s.joypad.actNibble ∧
    (t.bootEnabled = true → s.bootEnabled = true)

/-- A step never changes the images, the parameters or the MBC variant, never maps the boot ROM again, and raises a fault
only where the byte at PC is one of the eleven (R111, R124, R240, R700). -/
def Obligations.StepKeepsImagesAndFaultsOnlyOnUndefined : Prop :=
  ∀ s t : State, step s = .next t →
    t.params = s.params ∧ t.mbc.kind = s.mbc.kind ∧ t.arrays.rom = s.arrays.rom ∧
    t.arrays.romLen = s.arrays.romLen ∧ t.arrays.bootrom = s.arrays.bootrom ∧
    (t.bootEnabled = true → s.bootEnabled = true) ∧
    (s.cpu.fault = none → t.cpu.fault ≠ none →
      read8 s.cpu.pc s ∈ undefinedOpcodes ∧ t.cpu.fault = some (.unhandledOpcode (read8 s.cpu.pc s)))

/-! ### 8-bit arithmetic and logic -/

/-- A result of R401's addition: the sum modulo 256, Z, N = 0, the carries out of bits 3 and 7. -/
def Obligations.AdditionRows : Prop :=
  let sum := fun (v : State → Byte) (cin : State → Nat) (s : State) =>
    withAF (BitVec.ofNat 8 (s.cpu.a.toNat + (v s).toNat + cin s))
      { z := decide ((s.cpu.a.toNat + (v s).toNat + cin s) % 256 = 0), n := false
        h := decide (s.cpu.a.toNat % 16 + (v s).toNat % 16 + cin s > 15)
        c := decide (s.cpu.a.toNat + (v s).toNat + cin s > 255) } s
  let carry := fun s : State => if s.cpu.f.c then 1 else 0
  (∀ o : Operand8,
    RowSays (aluInstr .add o) [0x80#8 + r8Code o] (costOf o 4 8) (sum (readOperand o) (fun _ => 0)) ∧
    RowSays (aluInstr .adc o) [0x88#8 + r8Code o] (costOf o 4 8) (sum (readOperand o) carry)) ∧
  (∀ n : Byte,
    RowSays (.addAN8 n) [0xC6#8, n] (fun _ => 8) (sum (fun _ => n) (fun _ => 0)) ∧
    RowSays (.adcAN8 n) [0xCE#8, n] (fun _ => 8) (sum (fun _ => n) carry))

/-- A result of R402's subtraction: the difference modulo 256, Z, N = 1, the borrows from bits 4 and 8. -/
def Obligations.SubtractionRows : Prop :=
  let diff := fun (v : State → Byte) (cin : State → Nat) (s : State) =>
    withAF (BitVec.ofInt 8 (s.cpu.a.toNat - (v s).toNat - cin s))
      { z := decide (((s.cpu.a.toNat : Int) - (v s).toNat - cin s) % 256 = 0), n := true
        h := decide (s.cpu.a.toNat % 16 < (v s).toNat % 16 + cin s)
        c := decide (s.cpu.a.toNat < (v s).toNat + cin s) } s
  let carry := fun s : State => if s.cpu.f.c then 1 else 0
  (∀ o : Operand8,
    RowSays (aluInstr .sub o) [0x90#8 + r8Code o] (costOf o 4 8) (diff (readOperand o) (fun _ => 0)) ∧
    RowSays (aluInstr .sbc o) [0x98#8 + r8Code o] (costOf o 4 8) (diff (readOperand o) carry)) ∧
  (∀ n : Byte,
    RowSays (.subAN8 n) [0xD6#8, n] (fun _ => 8) (diff (fun _ => n) (fun _ => 0)) ∧
    RowSays (.sbcAN8 n) [0xDE#8, n] (fun _ => 8) (diff (fun _ => n) carry))

/-- XOR and OR: the bits, Z from the result, N, H and C clear (R418 to R423). -/
def Obligations.XorOrRows : Prop :=
  let flags := fun r : Byte => ({ z := decide (r = 0#8), n := false, h := false, c := false } : Flags)
  let xor := fun (v : State → Byte) (s : State) => withAF (s.cpu.a ^^^ v s) (flags (s.cpu.a ^^^ v s)) s
  let or := fun (v : State → Byte) (s : State) => withAF (s.cpu.a ||| v s) (flags (s.cpu.a ||| v s)) s
  (∀ o : Operand8,
    RowSays (aluInstr .xor o) [0xA8#8 + r8Code o] (costOf o 4 8) (xor (readOperand o)) ∧
    RowSays (aluInstr .or o) [0xB0#8 + r8Code o] (costOf o 4 8) (or (readOperand o))) ∧
  (∀ n : Byte,
    RowSays (.xorAN8 n) [0xEE#8, n] (fun _ => 8) (xor (fun _ => n)) ∧
    RowSays (.orAN8 n) [0xF6#8, n] (fun _ => 8) (or (fun _ => n)))

/-- AND: Z from the result, H set, N and C clear (D40 gives N and C); CP: SUB's flags with A unchanged (R424 to R426,
derived there from R402). -/
def Obligations.AndCompareRows : Prop :=
  let and := fun (v : State → Byte) (s : State) =>
    withAF (s.cpu.a &&& v s) { z := decide (s.cpu.a &&& v s = 0#8), n := false, h := true, c := false } s
  let cmp := fun (v : State → Byte) (s : State) =>
    withAF s.cpu.a
      { z := decide (s.cpu.a = v s), n := true
        h := decide (s.cpu.a.toNat % 16 < (v s).toNat % 16), c := decide (s.cpu.a.toNat < (v s).toNat) } s
  (∀ o : Operand8,
    RowSays (aluInstr .and o) [0xA0#8 + r8Code o] (costOf o 4 8) (and (readOperand o)) ∧
    RowSays (aluInstr .cp o) [0xB8#8 + r8Code o] (costOf o 4 8) (cmp (readOperand o))) ∧
  (∀ n : Byte,
    RowSays (.andAN8 n) [0xE6#8, n] (fun _ => 8) (and (fun _ => n)) ∧
    RowSays (.cpAN8 n) [0xFE#8, n] (fun _ => 8) (cmp (fun _ => n)))

/-- INC and DEC of a register or of the byte at HL: modulo 256, Z, N, H, with C kept (R427 to R430). -/
def Obligations.IncDec8Rows : Prop :=
  ∀ o : Operand8,
    RowSays (incInstr o) [0x04#8 + 8#8 * r8Code o] (costOf o 4 12) (fun s =>
      let old := readOperand o s
      setFlags { z := decide (old.toNat = 255), n := false, h := decide (old.toNat % 16 = 15), c := s.cpu.f.c }
        (writeOperand o (BitVec.ofNat 8 (old.toNat + 1)) s)) ∧
    RowSays (decInstr o) [0x05#8 + 8#8 * r8Code o] (costOf o 4 12) (fun s =>
      let old := readOperand o s
      setFlags { z := decide (old.toNat = 1), n := true, h := decide (old.toNat % 16 = 0), c := s.cpu.f.c }
        (writeOperand o (BitVec.ofNat 8 (old.toNat + 255)) s))

/-- DAA by R431's adjustment, written as one number added or taken away; CPL, SCF, CCF (R431 to R434). -/
def Obligations.AccumulatorFlagRows : Prop :=
  RowSays .daa [0x27#8] (fun _ => 4) (fun s =>
    let a := s.cpu.a.toNat
    let high := s.cpu.f.c = true ∨ (s.cpu.f.n = false ∧ a > 0x99)
    let low := s.cpu.f.h = true ∨ (s.cpu.f.n = false ∧ a % 16 > 9)
    let adj := (if high then 0x60 else 0) + (if low then 0x06 else 0)
    let r := BitVec.ofNat 8 (if s.cpu.f.n then a + 256 - adj else a + adj)
    withAF r { z := decide (r = 0#8), n := s.cpu.f.n, h := false, c := decide high } s) ∧
  RowSays .cpl [0x2F#8] (fun _ => 4) (fun s =>
    withAF (BitVec.ofNat 8 (255 - s.cpu.a.toNat)) { z := s.cpu.f.z, n := true, h := true, c := s.cpu.f.c } s) ∧
  RowSays .scf [0x37#8] (fun _ => 4) (fun s =>
    withAF s.cpu.a { z := s.cpu.f.z, n := false, h := false, c := true } s) ∧
  RowSays .ccf [0x3F#8] (fun _ => 4) (fun s =>
    withAF s.cpu.a { z := s.cpu.f.z, n := false, h := false, c := !s.cpu.f.c } s)

/-! ### 16-bit arithmetic -/

/-- ADD HL,rr with the carries out of bits 11 and 15 and Z kept (R450); INC rr and DEC rr write no flag and wrap (R451, R452;
the wrap is the spec's decision D4); ADD SP,e8 and LD HL,SP+e8: the signed displacement, Z and N clear, H and C of the
unsigned low-byte sum (R453, R454). -/
def Obligations.Arithmetic16Rows : Prop :=
  (∀ p : Pair,
    RowSays (addHlInstr p) [0x09#8 + 16#8 * pairCode p] (fun _ => 8) (fun s =>
      let x := (getPair .hl s).toNat
      let y := (getPair p s).toNat
      setFlags { z := s.cpu.f.z, n := false, h := decide (x % 4096 + y % 4096 > 4095), c := decide (x + y > 65535) }
        (setPair .hl (BitVec.ofNat 16 (x + y)) s)) ∧
    RowSays (incPairInstr p) [0x03#8 + 16#8 * pairCode p] (fun _ => 8) (fun s =>
      setPair p (BitVec.ofNat 16 ((getPair p s).toNat + 1)) s) ∧
    RowSays (decPairInstr p) [0x0B#8 + 16#8 * pairCode p] (fun _ => 8) (fun s =>
      setPair p (BitVec.ofNat 16 ((getPair p s).toNat + 65535)) s)) ∧
  (∀ e : Byte,
    let target := fun s : State => BitVec.ofInt 16 (s.cpu.sp.toNat + e.toInt)
    let flags := fun s : State =>
      ({ z := false, n := false, h := decide (s.cpu.sp.toNat % 16 + e.toNat % 16 > 15)
         c := decide (s.cpu.sp.toNat % 256 + e.toNat > 255) } : Flags)
    RowSays (.addSpE8 e) [0xE8#8, e] (fun _ => 16) (fun s =>
      { s with cpu := { s.cpu with sp := target s, f := flags s } }) ∧
    RowSays (.ldHlSpE8 e) [0xF8#8, e] (fun _ => 12) (fun s => setFlags (flags s) (setPair .hl (target s) s)))

/-! ### Rotates, shifts and bits -/

/-- RLCA, RRCA, RLA, RRA: A rotated, C the bit out, Z, N and H clear (R501 to R504). -/
def Obligations.AccumulatorRotateRows : Prop :=
  let out := fun c : Bool => ({ z := false, n := false, h := false, c := c } : Flags)
  let carry := fun s : State => if s.cpu.f.c then 1 else 0
  RowSays .rlca [0x07#8] (fun _ => 4) (fun s =>
    withAF (BitVec.ofNat 8 (s.cpu.a.toNat * 2 + s.cpu.a.toNat / 128)) (out (decide (128 ≤ s.cpu.a.toNat))) s) ∧
  RowSays .rrca [0x0F#8] (fun _ => 4) (fun s =>
    withAF (BitVec.ofNat 8 (s.cpu.a.toNat / 2 + s.cpu.a.toNat % 2 * 128)) (out (decide (s.cpu.a.toNat % 2 = 1))) s) ∧
  RowSays .rla [0x17#8] (fun _ => 4) (fun s =>
    withAF (BitVec.ofNat 8 (s.cpu.a.toNat * 2 + carry s)) (out (decide (128 ≤ s.cpu.a.toNat))) s) ∧
  RowSays .rra [0x1F#8] (fun _ => 4) (fun s =>
    withAF (BitVec.ofNat 8 (s.cpu.a.toNat / 2 + carry s * 128)) (out (decide (s.cpu.a.toNat % 2 = 1))) s)

/-- RLC, RL and SLA of a register or the byte at HL: C the old bit 7, Z from the result (R505, R506, R509, R510, R513,
R514). -/
def Obligations.LeftRotateShiftRows : Prop :=
  let row := fun (op : RotOp) (o : Operand8) (base : Byte) (enter : Nat → State → Nat) =>
    RowSays (rotInstr op o) [0xCB#8, base + r8Code o] (costOf o 8 16) (fun s =>
      let v := (readOperand o s).toNat
      let r := BitVec.ofNat 8 (v * 2 + enter v s)
      setFlags { z := decide (r = 0#8), n := false, h := false, c := decide (128 ≤ v) } (writeOperand o r s))
  ∀ o : Operand8,
    row .rlc o 0x00#8 (fun v _ => v / 128) ∧
    row .rl o 0x10#8 (fun _ s => if s.cpu.f.c then 1 else 0) ∧
    row .sla o 0x20#8 (fun _ _ => 0)

/-- RRC, RR, SRA and SRL of a register or the byte at HL: C the old bit 0, Z from the result (R507, R508, R511, R512,
R515, R516, R519, R520). -/
def Obligations.RightRotateShiftRows : Prop :=
  let row := fun (op : RotOp) (o : Operand8) (base : Byte) (enter : Nat → State → Nat) =>
    RowSays (rotInstr op o) [0xCB#8, base + r8Code o] (costOf o 8 16) (fun s =>
      let v := (readOperand o s).toNat
      let r := BitVec.ofNat 8 (v / 2 + enter v s * 128)
      setFlags { z := decide (r = 0#8), n := false, h := false, c := decide (v % 2 = 1) } (writeOperand o r s))
  ∀ o : Operand8,
    row .rrc o 0x08#8 (fun v _ => v % 2) ∧
    row .rr o 0x18#8 (fun _ s => if s.cpu.f.c then 1 else 0) ∧
    row .sra o 0x28#8 (fun v _ => v / 128) ∧
    row .srl o 0x38#8 (fun _ _ => 0)

/-- SWAP exchanges the nibbles and clears C (R517, R518; C is the spec's decision D39). -/
def Obligations.SwapRows : Prop :=
  ∀ o : Operand8,
    RowSays (rotInstr .swap o) [0xCB#8, 0x30#8 + r8Code o] (costOf o 8 16) (fun s =>
      let v := (readOperand o s).toNat
      setFlags { z := decide (v = 0), n := false, h := false, c := false }
        (writeOperand o (BitVec.ofNat 8 (v % 16 * 16 + v / 16)) s))

/-- BIT tests a bit and writes nothing back, C kept; RES and SET write one bit and no flag (R521 to R526). -/
def Obligations.BitRows : Prop :=
  ∀ (b : Fin 8) (o : Operand8),
    let code := 8#8 * BitVec.ofNat 8 b.val + r8Code o
    RowSays (bitInstr b o) [0xCB#8, 0x40#8 + code] (costOf o 8 12) (fun s =>
      setFlags { z := decide ((readOperand o s).toNat / 2 ^ b.val % 2 = 0), n := false, h := true, c := s.cpu.f.c } s) ∧
    RowSays (resInstr b o) [0xCB#8, 0x80#8 + code] (costOf o 8 16) (fun s =>
      writeOperand o (readOperand o s &&& ~~~(BitVec.ofNat 8 (2 ^ b.val))) s) ∧
    RowSays (setInstr b o) [0xCB#8, 0xC0#8 + code] (costOf o 8 16) (fun s =>
      writeOperand o (readOperand o s ||| BitVec.ofNat 8 (2 ^ b.val)) s)

/-! ### Control transfer and stack -/

/-- JP, JP cc, JP HL, JR, JR cc: only PC changes, and only where the condition holds; the taken and untaken costs (R550 to
R554). -/
def Obligations.JumpRows : Prop :=
  let cond := fun (cc : Cond) (s : State) =>
    match cc with | .nz => s.cpu.f.z = false | .z => s.cpu.f.z = true | .nc => s.cpu.f.c = false | .c => s.cpu.f.c = true
  let goto := fun (t : Word) (s : State) => { s with cpu := { s.cpu with pc := t } }
  let rel := fun (e : Byte) (s : State) => BitVec.ofInt 16 (s.cpu.pc.toNat + e.toInt)
  (∀ n : Word, RowSays (.jpN16 n) [0xC3#8, loByte n, hiByte n] (fun _ => 16) (goto n)) ∧
  RowSays .jpHl [0xE9#8] (fun _ => 4) (fun s => goto (getPair .hl s) s) ∧
  (∀ e : Byte, RowSays (.jrE8 e) [0x18#8, e] (fun _ => 12) (fun s => goto (rel e s) s)) ∧
  (∀ (cc : Cond) (n : Word) (e : Byte) (s : State),
    encode (jpCondInstr cc n) = [0xC2#8 + 8#8 * condCode cc, loByte n, hiByte n] ∧
    encode (jrCondInstr cc e) = [0x20#8 + 8#8 * condCode cc, e] ∧
    (cond cc s → cycles (jpCondInstr cc n) s = 16 ∧ exec (jpCondInstr cc n) s = .next (goto n s) ∧
      cycles (jrCondInstr cc e) s = 12 ∧ exec (jrCondInstr cc e) s = .next (goto (rel e s) s)) ∧
    (¬ cond cc s → cycles (jpCondInstr cc n) s = 12 ∧ exec (jpCondInstr cc n) s = .next s ∧
      cycles (jrCondInstr cc e) s = 8 ∧ exec (jrCondInstr cc e) s = .next s))

/-- CALL, CALL cc and RST: the address after the instruction is pushed low byte at SP - 2 and high byte at SP - 1, SP is
that much lower and PC is the target; an untaken CALL changes nothing (R555, R556, R559). -/
def Obligations.CallRows : Prop :=
  let cond := fun (cc : Cond) (s : State) =>
    match cc with | .nz => s.cpu.f.z = false | .z => s.cpu.f.z = true | .nc => s.cpu.f.c = false | .c => s.cpu.f.c = true
  let call := fun (t : Word) (s : State) =>
    write8 (s.cpu.sp - 1#16) (hiByte s.cpu.pc) (write8 (s.cpu.sp - 2#16) (loByte s.cpu.pc)
      { s with cpu := { s.cpu with sp := s.cpu.sp - 2#16, pc := t } })
  (∀ n : Word, RowSays (.callN16 n) [0xCD#8, loByte n, hiByte n] (fun _ => 24) (call n)) ∧
  (∀ y : Fin 8, RowSays (rstInstr y) [0xC7#8 + 8#8 * BitVec.ofNat 8 y.val] (fun _ => 16)
    (call (BitVec.ofNat 16 (y.val * 8)))) ∧
  (∀ (cc : Cond) (n : Word) (s : State),
    encode (callCondInstr cc n) = [0xC4#8 + 8#8 * condCode cc, loByte n, hiByte n] ∧
    (cond cc s → cycles (callCondInstr cc n) s = 24 ∧ exec (callCondInstr cc n) s = .next (call n s)) ∧
    (¬ cond cc s → cycles (callCondInstr cc n) s = 12 ∧ exec (callCondInstr cc n) s = .next s))

/-- RET, RET cc and RETI: PC is the word at SP and SP is 2 higher; RETI sets IME at once; an untaken RET changes nothing
(R557, R558, R560). -/
def Obligations.ReturnRows : Prop :=
  let cond := fun (cc : Cond) (s : State) =>
    match cc with | .nz => s.cpu.f.z = false | .z => s.cpu.f.z = true | .nc => s.cpu.f.c = false | .c => s.cpu.f.c = true
  let ret := fun s : State => { s with cpu := { s.cpu with pc := read16 s.cpu.sp s, sp := s.cpu.sp + 2#16 } }
  RowSays .ret [0xC9#8] (fun _ => 16) ret ∧
  RowSays .reti [0xD9#8] (fun _ => 16) (fun s => { ret s with cpu := { (ret s).cpu with ime := true } }) ∧
  (∀ (cc : Cond) (s : State),
    encode (retCondInstr cc) = [0xC0#8 + 8#8 * condCode cc] ∧
    (cond cc s → cycles (retCondInstr cc) s = 20 ∧ exec (retCondInstr cc) s = .next (ret s)) ∧
    (¬ cond cc s → cycles (retCondInstr cc) s = 8 ∧ exec (retCondInstr cc) s = .next s))

/-- PUSH stores the pair low byte at the new SP and high byte above it; POP reads it back and moves SP up; POP AF takes the
flags from bits 7..4 of the low byte (R561 to R563). -/
def Obligations.PushPopRows : Prop :=
  ∀ p : StackPair,
    RowSays (pushInstr p) [0xC5#8 + 16#8 * stackPairCode p] (fun _ => 16) (fun s =>
      write8 (s.cpu.sp - 1#16) (hiByte (getStackPair p s)) (write8 (s.cpu.sp - 2#16) (loByte (getStackPair p s))
        { s with cpu := { s.cpu with sp := s.cpu.sp - 2#16 } })) ∧
    RowSays (popInstr p) [0xC1#8 + 16#8 * stackPairCode p] (fun _ => 12) (fun s =>
      let lo := read8 s.cpu.sp s
      let hi := read8 (s.cpu.sp + 1#16) s
      let cpu := { s.cpu with sp := s.cpu.sp + 2#16 }
      { s with cpu :=
        match p with
        | .bc => { cpu with b := hi, c := lo }
        | .de => { cpu with d := hi, e := lo }
        | .hl => { cpu with h := hi, l := lo }
        | .af => { cpu with a := hi, f := ⟨lo.getLsbD 7, lo.getLsbD 6, lo.getLsbD 5, lo.getLsbD 4⟩ } })

/-- What PUSH stored POP gets back, and what CALL stored RET returns to, with SP restored, where the two stack bytes are
plain storage. -/
def Obligations.StackRoundTrip : Prop :=
  ∀ (s : State) (p : StackPair), isPlainStore (s.cpu.sp - 2#16) = true → isPlainStore (s.cpu.sp - 1#16) = true →
    (∀ t u, exec (pushInstr p) s = .next t → exec (popInstr p) t = .next u → u.cpu = s.cpu) ∧
    (∀ n t u, exec (.callN16 n) s = .next t → exec .ret t = .next u → u.cpu = s.cpu)

/-! ### Loads and stores -/

/-- The r8 operand (R303, R400): a register is that register, and (HL) is the byte at HL, read and written through the memory
map. With it LD r,r', LD r,(HL), LD (HL),r, LD r,n8 and LD (HL),n8: the source is read, the destination written, nothing
else (R600 to R604). -/
def Obligations.Load8Rows : Prop :=
  (∀ (r : Reg8) (v : Byte) (s : State),
    readOperand (.reg r) s = getReg r s ∧ writeOperand (.reg r) v s = setReg r v s) ∧
  (∀ (v : Byte) (s : State),
    readOperand .atHl s = read8 (getPair .hl s) s ∧ writeOperand .atHl v s = write8 (getPair .hl s) v s) ∧
  (∀ dst src : Reg8, RowSays (ldInstr (.reg dst) (.reg src)) [0x40#8 + 8#8 * r8Code (.reg dst) + r8Code (.reg src)]
    (fun _ => 4) (fun s => setReg dst (getReg src s) s)) ∧
  (∀ r : Reg8,
    RowSays (ldInstr (.reg r) .atHl) [0x46#8 + 8#8 * r8Code (.reg r)] (fun _ => 8) (fun s =>
      setReg r (read8 (getPair .hl s) s) s) ∧
    RowSays (ldInstr .atHl (.reg r)) [0x70#8 + r8Code (.reg r)] (fun _ => 8) (fun s =>
      write8 (getPair .hl s) (getReg r s) s)) ∧
  (∀ (r : Reg8) (n : Byte),
    RowSays (ldImmInstr (.reg r) n) [0x06#8 + 8#8 * r8Code (.reg r), n] (fun _ => 8) (setReg r n)) ∧
  (∀ n : Byte, RowSays (ldImmInstr .atHl n) [0x36#8, n] (fun _ => 12) (fun s => write8 (getPair .hl s) n s))

/-- LD A,(BC), LD A,(DE), LD A,(n16) and the stores the other way (R605 to R610); LDH A,(n8), LDH (n8),A,
LD A,(C), LD (C),A on the page 0xFF00 to 0xFFFF (R611 to R614). -/
def Obligations.AccumulatorLoadRows : Prop :=
  let load := fun (a : State → Word) (s : State) => withAF (read8 (a s) s) s.cpu.f s
  let store := fun (a : State → Word) (s : State) => write8 (a s) s.cpu.a s
  let page := fun n : Byte => BitVec.ofNat 16 (0xFF00 + n.toNat)
  RowSays .ldAAtBc [0x0A#8] (fun _ => 8) (load (getPair .bc)) ∧
  RowSays .ldAAtDe [0x1A#8] (fun _ => 8) (load (getPair .de)) ∧
  RowSays .ldAtBcA [0x02#8] (fun _ => 8) (store (getPair .bc)) ∧
  RowSays .ldAtDeA [0x12#8] (fun _ => 8) (store (getPair .de)) ∧
  (∀ n : Word, RowSays (.ldAAtN16 n) [0xFA#8, loByte n, hiByte n] (fun _ => 16) (load (fun _ => n)) ∧
    RowSays (.ldAtN16A n) [0xEA#8, loByte n, hiByte n] (fun _ => 16) (store (fun _ => n))) ∧
  (∀ n : Byte,
    RowSays (.ldhAAtN8 n) [0xF0#8, n] (fun _ => 12) (load (fun _ => page n)) ∧
    RowSays (.ldhAtN8A n) [0xE0#8, n] (fun _ => 12) (store (fun _ => page n))) ∧
  RowSays .ldAAtC [0xF2#8] (fun _ => 8) (load (fun s => page s.cpu.c)) ∧
  RowSays .ldAtCA [0xE2#8] (fun _ => 8) (store (fun s => page s.cpu.c))

/-- LD (HL+),A, LD (HL-),A, LD A,(HL+), LD A,(HL-): the access at the old HL, then HL moved by one, wrapping (R615 to
R618); LD rr,n16, LD (n16),SP and LD SP,HL (R619 to R621). -/
def Obligations.PostStepAndLoad16Rows : Prop :=
  let hl := fun s : State => (getPair .hl s).toNat
  RowSays .ldAtHlIncA [0x22#8] (fun _ => 8) (fun s =>
    setPair .hl (BitVec.ofNat 16 (hl s + 1)) (write8 (getPair .hl s) s.cpu.a s)) ∧
  RowSays .ldAtHlDecA [0x32#8] (fun _ => 8) (fun s =>
    setPair .hl (BitVec.ofNat 16 (hl s + 65535)) (write8 (getPair .hl s) s.cpu.a s)) ∧
  RowSays .ldAAtHlInc [0x2A#8] (fun _ => 8) (fun s =>
    setPair .hl (BitVec.ofNat 16 (hl s + 1)) (withAF (read8 (getPair .hl s) s) s.cpu.f s)) ∧
  RowSays .ldAAtHlDec [0x3A#8] (fun _ => 8) (fun s =>
    setPair .hl (BitVec.ofNat 16 (hl s + 65535)) (withAF (read8 (getPair .hl s) s) s.cpu.f s)) ∧
  (∀ (p : Pair) (n : Word),
    RowSays (ldPairInstr p n) [0x01#8 + 16#8 * pairCode p, loByte n, hiByte n] (fun _ => 12) (setPair p n)) ∧
  (∀ n : Word, RowSays (.ldAtN16Sp n) [0x08#8, loByte n, hiByte n] (fun _ => 20) (fun s =>
    write8 (n + 1#16) (hiByte s.cpu.sp) (write8 n (loByte s.cpu.sp) s))) ∧
  RowSays .ldSpHl [0xF9#8] (fun _ => 8) (fun s => { s with cpu := { s.cpu with sp := getPair .hl s } })

/-! ### System instructions and interrupts -/

/-- NOP, HALT, STOP, DI, EI: the one field each writes; STOP ignores its second byte (R650 to R654; STOP's length is
decision D9, and that HALT has no HALT bug is D8). -/
def Obligations.SystemRows : Prop :=
  RowSays .nop [0x00#8] (fun _ => 4) (fun s => s) ∧
  RowSays .halt [0x76#8] (fun _ => 4) (fun s => { s with cpu := { s.cpu with runState := .halted } }) ∧
  (∀ n : Byte, RowSays (.stop n) [0x10#8, n] (fun _ => 4) (fun s =>
    { s with cpu := { s.cpu with runState := .stopped } })) ∧
  RowSays .di [0xF3#8] (fun _ => 4) (fun s => { s with cpu := { s.cpu with ime := false } }) ∧
  RowSays .ei [0xFB#8] (fun _ => 4) (fun s => { s with cpu := { s.cpu with eiPending := true } })

/-- The EI delay: in EI's own step the interrupt check sees the old IME, so with IME clear nothing is dispatched whatever
is pending; at the start of the next step IME is set (R654, R820, R821). -/
def Obligations.EiActsOneStepLater : Prop :=
  (∀ s t : State, ¬ s.Ended → s.cpu.runState = .running → s.cpu.ime = false → s.cpu.eiPending = false →
    read8 s.cpu.pc s = 0xFB#8 → step s = .next t →
    t.cpu = { s.cpu with pc := s.cpu.pc + 1#16, eiPending := true }) ∧
  (∀ s : State, ¬ s.Ended → s.cpu.eiPending = true →
    step s = step { s with cpu := { s.cpu with ime := true, eiPending := false } })

/-- The interrupt check: nothing without a pending and enabled request; any wakes a halted core whatever IME is; with IME
the lowest of bits 0, 2, 3, 4 is taken for 20 cycles, bit 1 never (R707 to R709, R711; the pending set is decision D6, bit
1's part D7). -/
def Obligations.InterruptCheck : Prop :=
  ∀ s : State,
    let pending := s.ifReg.toNat &&& s.ie.toNat
    let woken := { s with cpu := { s.cpu with
      runState := if s.cpu.runState = .halted then .running else s.cpu.runState } }
    (pending = 0 → handleInterrupt s = (s, 0)) ∧
    (pending ≠ 0 → s.cpu.ime = false → handleInterrupt s = (woken, 0)) ∧
    (pending ≠ 0 → s.cpu.ime = true →
      handleInterrupt s =
        if pending.testBit 0 then (takeInterrupt .vblank woken, 20)
        else if pending.testBit 2 then (takeInterrupt .timer woken, 20)
        else if pending.testBit 3 then (takeInterrupt .serial woken, 20)
        else if pending.testBit 4 then (takeInterrupt .joypad woken, 20)
        else (woken, 0))

/-- Taking an interrupt: IME clear, the IF bit clear, PC pushed low byte at SP - 2 and high byte at SP - 1, SP 2 lower, PC the
vector; the other registers, flags, run state and EI latch as they were (R704, R709; bit 1 and the serial source are
decisions D7 and D45). -/
def Obligations.TakingAnInterrupt : Prop :=
  ∀ (s : State) (k : IrqSource),
    let bitVector : Nat × Word := match k with
      | .vblank => (0, 0x0040#16) | .timer => (2, 0x0050#16) | .serial => (3, 0x0058#16) | .joypad => (4, 0x0060#16)
    takeInterrupt k s =
      write8 (s.cpu.sp - 1#16) (hiByte s.cpu.pc) (write8 (s.cpu.sp - 2#16) (loByte s.cpu.pc)
        { s with
          cpu := { s.cpu with ime := false, sp := s.cpu.sp - 2#16, pc := bitVector.2 }
          ifReg := s.ifReg &&& ~~~(BitVec.ofNat 5 (2 ^ bitVector.1)) })

/-- Interrupts are precise: RETI right after an interrupt was taken gives back the processor as it was, but for IME set,
where the two stack bytes are plain storage (R712, R713). -/
def Obligations.RetiUndoesTheDispatch : Prop :=
  ∀ (s : State) (k : IrqSource), isPlainStore (s.cpu.sp - 2#16) = true → isPlainStore (s.cpu.sp - 1#16) = true →
    ∃ t, exec .reti (takeInterrupt k s) = .next t ∧ t.cpu = { s.cpu with ime := true }

/-! ### Timer -/

/-- A tick: DIV gains one for each whole 256 cycles; TIMA stands still with TAC bit 2 clear; with it set, cycles short of a
period only accumulate, and the cycles that complete one period increment TIMA, reloading it from TMA and raising IF bit
2 past 0xFF (R720, R721; the loop form is the spec's decision D17). -/
def Obligations.TimerTickRule : Prop :=
  ∀ (s : State) (c : Nat),
    let t := timerTick c s
    let period := match s.timer.tac.toNat % 4 with | 0 => 1024 | 1 => 16 | 2 => 64 | _ => 256
    let acc := s.timer.timaAcc + c
    t.timer.div.toNat = (s.timer.div.toNat + (s.timer.divAcc + c) / 256) % 256 ∧
    t.timer.divAcc = (s.timer.divAcc + c) % 256 ∧ t.timer.tma = s.timer.tma ∧ t.timer.tac = s.timer.tac ∧
    { t with timer := s.timer, ifReg := s.ifReg } = s ∧
    (s.timer.tac.getLsbD 2 = false →
      t.timer.tima = s.timer.tima ∧ t.timer.timaAcc = s.timer.timaAcc ∧ t.ifReg = s.ifReg) ∧
    (s.timer.tac.getLsbD 2 = true → t.timer.timaAcc = acc % period) ∧
    (s.timer.tac.getLsbD 2 = true → acc < period → t.timer.tima = s.timer.tima ∧ t.ifReg = s.ifReg) ∧
    (s.timer.tac.getLsbD 2 = true → acc = period →
      if s.timer.tima = 0xFF#8 then t.timer.tima = s.timer.tma ∧ t.ifReg = s.ifReg ||| 0b00100#5
      else t.timer.tima.toNat = s.timer.tima.toNat + 1 ∧ t.ifReg = s.ifReg)

/-- Ticking `a` cycles and then `b` is ticking `a + b`, for the timer and for the PPU: no cycle is lost (D17, D18,
95_test_vectors.md section 8.2). -/
def Obligations.DeviceTicksAdd : Prop :=
  ∀ (s : State) (a b : Nat),
    timerTick b (timerTick a s) = timerTick (a + b) s ∧ ppuStep b (ppuStep a s) = ppuStep (a + b) s

/-! ### PPU -/

/-- The mode machine: cycles short of the budget only accumulate; the cycles that complete it make R731 to R734's
transition with nothing left over. The budgets and the accumulation are R730's (the remainder is carried by decision D18),
the gate of the VBlank request is R733's parameter (D10), each of its three values stated. What a VBLANK line does where LY
is above 153, which no run reaches, is the model's (log entry 20). -/
def Obligations.PpuTransitions : Prop :=
  ∀ (s : State) (c : Nat),
    let budget := match s.ppu.mode with
      | .oamScan => 80 | .pixelTransfer => 172 | .hblank => 204 | .vblank => 456
    let at0 := { s with ppu := { s.ppu with acc := 0 } }
    let ly1 := s.ppu.ly + 1#8
    let open' := match s.params.vblankGate with
      | .always => true | .ieBit0 => s.ie.getLsbD 0 | .lcdcBit7 => s.ppu.lcdc.getLsbD 7
    (s.ppu.acc + c < budget → ppuStep c s = { s with ppu := { s.ppu with acc := s.ppu.acc + c } }) ∧
    (s.ppu.acc + c = budget →
      ppuStep c s =
        match s.ppu.mode with
        | .oamScan => { s with ppu := { at0.ppu with mode := .pixelTransfer } }
        | .pixelTransfer =>
          { s with ppu := { (renderScanline s.ppu.ly.toNat at0).ppu with mode := .hblank } }
        | .hblank =>
          if ly1.toNat < 144 then { s with ppu := { at0.ppu with ly := ly1, mode := .oamScan } }
          else
            { s with
              ppu := { at0.ppu with ly := ly1, mode := .vblank }
              ifReg := if open' then s.ifReg ||| 1#5 else s.ifReg }
        | .vblank =>
          if ly1.toNat > 153 then { s with ppu := { at0.ppu with ly := 0#8, mode := .oamScan } }
          else { s with ppu := { at0.ppu with ly := ly1 } })

/-- A frame is 70224 cycles: from the start of line 0 the mode machine is there again after that many, with VBlank requested
once if the gate is open, VRAM and the registers as they were; 65664 cycles in, VBlank begins at line 144 (R735). -/
def Obligations.FramePeriod : Prop :=
  ∀ s : State, s.ppu.mode = .oamScan → s.ppu.acc = 0 → s.ppu.ly = 0#8 →
    (let v := ppuStep 65664 s
     v.ppu.mode = .vblank ∧ v.ppu.acc = 0 ∧ v.ppu.ly = 144#8) ∧
    (let t := ppuStep 70224 s
     { t with ppu := { t.ppu with fb := s.ppu.fb }, ifReg := s.ifReg } = s ∧
     t.ifReg = if gateOpen s then s.ifReg ||| 1#5 else s.ifReg)

/-- A rendered row: each of its 256 pixels is the shade of the background pixel at (x + SCX, line + SCY) modulo 256, and no
other pixel and nothing outside the framebuffer changes (R736; the tile format and the scroll reading are D12, D49). -/
def Obligations.RenderedRow : Prop :=
  ∀ (s : State) (line : Nat), line < 256 →
    (∀ x y, x < 256 → y < 256 →
      framePixel (renderScanline line s) x y =
        if y = line then
          let map := if s.ppu.lcdc.getLsbD 3 then 0x1C00 else 0x1800
          let by' := (line + s.ppu.scy.toNat) % 256
          let bx := (x + s.ppu.scx.toNat) % 256
          let tile := (Memory.read s.arrays.vram (map + by' / 8 * 32 + bx / 8)).toNat
          let data :=
            if s.ppu.lcdc.getLsbD 4 then tile * 16
            else if tile < 128 then 0x1000 + tile * 16 else tile * 16
          let lo := (Memory.read s.arrays.vram (data + by' % 8 * 2)).toNat / 2 ^ (7 - bx % 8) % 2
          let hi := (Memory.read s.arrays.vram (data + by' % 8 * 2 + 1)).toNat / 2 ^ (7 - bx % 8) % 2
          BitVec.ofNat 2 (s.ppu.bgp.toNat / 4 ^ (hi * 2 + lo))
        else framePixel s x y) ∧
    { renderScanline line s with ppu := s.ppu } = s ∧
    { (renderScanline line s).ppu with fb := s.ppu.fb } = s.ppu

/-! ### Joypad -/

/-- P1 reads the nibbles of the selected groups ANDed; a press clears the button's bit and requests IF bit 4 only when it
was up and its group is selected; a release sets the bit and requests nothing (R750, R751; D29, D48). -/
def Obligations.JoypadRule : Prop :=
  (∀ j : Joypad, p1Read j =
    0xC0#8 ||| j.select |||
      BitVec.setWidth 8 ((if j.select.getLsbD 4 then 0xF#4 else j.dirNibble) &&&
        (if j.select.getLsbD 5 then 0xF#4 else j.actNibble))) ∧
  (∀ (s : State) (btn other : Button),
    let up := fun (t : State) (x : Button) => match x with
      | .right => t.joypad.dirNibble.getLsbD 0 | .left => t.joypad.dirNibble.getLsbD 1
      | .up => t.joypad.dirNibble.getLsbD 2 | .down => t.joypad.dirNibble.getLsbD 3
      | .a => t.joypad.actNibble.getLsbD 0 | .b => t.joypad.actNibble.getLsbD 1
      | .select => t.joypad.actNibble.getLsbD 2 | .start => t.joypad.actNibble.getLsbD 3
    let selected := match btn with
      | .right | .left | .up | .down => !s.joypad.select.getLsbD 4
      | _ => !s.joypad.select.getLsbD 5
    up (press btn s) other = (if other = btn then false else up s other) ∧
    up (release btn s) other = (if other = btn then true else up s other) ∧
    (press btn s).ifReg = (if up s btn && selected then s.ifReg ||| 0b10000#5 else s.ifReg) ∧
    (press btn s).joypad.select = s.joypad.select ∧ (release btn s).joypad.select = s.joypad.select ∧
    { press btn s with joypad := s.joypad, ifReg := s.ifReg } = s ∧
    { release btn s with joypad := s.joypad } = s)
end

