-- ==== Sys2Proof/Laws/Bits.lean ====
section
/-! SUPPORT. The laws of the bit-field helpers. -/

namespace Sys2Proof.Machine

@[simp] theorem mkWord_toNat (h l : Byte) : (mkWord h l).toNat = h.toNat * 256 + l.toNat := by
  have := l.isLt
  rw [mkWord, BitVec.toNat_append, ← Nat.shiftLeft_add_eq_or_of_lt l.isLt, Nat.shiftLeft_eq]

@[simp] theorem hiByte_toNat (v : Word) : (hiByte v).toNat = v.toNat / 256 := by
  have := v.isLt
  simp [hiByte, Nat.shiftRight_eq_div_pow]; omega

@[simp] theorem loByte_toNat (v : Word) : (loByte v).toNat = v.toNat % 256 := by simp [loByte]

@[simp] theorem hiByte_mkWord (h l : Byte) : hiByte (mkWord h l) = h := by
  apply BitVec.eq_of_toNat_eq
  have := l.isLt
  rw [hiByte_toNat, mkWord_toNat]; omega

@[simp] theorem loByte_mkWord (h l : Byte) : loByte (mkWord h l) = l := by
  apply BitVec.eq_of_toNat_eq
  have := l.isLt
  rw [loByte_toNat, mkWord_toNat]; omega

@[simp] theorem mkWord_hiByte_loByte (v : Word) : mkWord (hiByte v) (loByte v) = v := by
  apply BitVec.eq_of_toNat_eq
  have := v.isLt
  rw [mkWord_toNat, hiByte_toNat, loByte_toNat]; omega

/-- Sign extension is the signed value at the larger width. -/
theorem sext16_eq (v : Byte) : sext16 v = BitVec.ofInt 16 v.toInt := rfl

/-- Adding a sign-extended displacement is adding its signed value. -/
theorem add_sext16 (w : Word) (e : Byte) : w + sext16 e = BitVec.ofInt 16 (w.toNat + e.toInt) := by
  apply BitVec.eq_of_toInt_eq
  rw [sext16_eq, BitVec.toInt_add, BitVec.toInt_ofInt, BitVec.toInt_ofInt, BitVec.toInt_eq_toNat_bmod]
  simp

@[simp] theorem bitNat_true : bitNat true = 1 := rfl
@[simp] theorem bitNat_false : bitNat false = 0 := rfl
theorem bitNat_eq (b : Bool) : bitNat b = if b then 1 else 0 := by cases b <;> rfl

end Sys2Proof.Machine
end

