-- ==== Sys2Proof/Laws/Decode.lean ====
section
/-! SUPPORT. The decoder on lists of bytes: one lemma for each way it can answer. -/

namespace Sys2Proof

/-- Where the bytes are enough for the length the first one fixes, the answer is the instruction and what follows. -/
theorem decodeBytes_complete {op : Byte} {rest : List Byte} (h : lengthOf op ≤ rest.length + 1) :
    decodeBytes (op :: rest)
      = .instr (decode3 op (rest.getD 0 0#8) (rest.getD 1 0#8)) (rest.drop (lengthOf op - 1)) := if_pos h

/-- A list that ends right after 0xCB is the prefix alone. -/
theorem decodeBytes_lone_cb : decodeBytes [0xCB#8] = .instr .prefixCb [] := by decide

/-- After 0xCB the next byte indexes the CB table. -/
theorem decodeBytes_cb (op2 : Byte) (rest : List Byte) :
    decodeBytes (0xCB#8 :: op2 :: rest) = .instr (decodeCb op2) rest := by
  have hl : lengthOf 0xCB#8 = 2 := by decide
  rw [decodeBytes_complete (by rw [hl]; exact Nat.le_add_left _ _)]
  rfl

/-- An instruction read from a list is either the prefix alone at its end or what `decode3` reads. -/
theorem decodeBytes_cases {bs rest : List Byte} {i : Instr} (h : decodeBytes bs = .instr i rest) :
    (bs = [0xCB#8] ∧ i = .prefixCb ∧ rest = []) ∨
      ∃ op tail, bs = op :: tail ∧ lengthOf op ≤ tail.length + 1 ∧
        i = decode3 op (tail.getD 0 0#8) (tail.getD 1 0#8) ∧ rest = tail.drop (lengthOf op - 1) := by
  cases bs with
  | nil => cases h
  | cons op tail =>
    by_cases hl : lengthOf op ≤ tail.length + 1
    · rw [decodeBytes_complete hl] at h
      cases h
      exact .inr ⟨op, tail, rfl, hl, rfl, rfl⟩
    · by_cases hcb : op = 0xCB#8
      · subst hcb
        cases tail with
        | nil =>
          rw [decodeBytes_lone_cb] at h
          cases h
          exact .inl ⟨rfl, rfl, rfl⟩
        | cons c cs => exact absurd (Nat.le_add_left 2 cs.length) hl
      · rw [decodeBytes, if_neg hl, if_neg hcb] at h
        cases h

end Sys2Proof
end

