-- ==== Sys2Proof/Laws/Memory.lean ====
section
/-! SUPPORT. The laws of one array: read after write, and that every operation keeps the canonical form. -/

namespace Sys2Proof.Machine

variable {w : Nat}

@[simp] theorem Memory.read_nil (a : Nat) : Memory.read ([] : Memory w) a = 0#w := rfl

theorem Memory.read_cons (k : Nat) (v : BitVec w) (m : Memory w) (a : Nat) :
    Memory.read ((k, v) :: m) a = if k = a then v else Memory.read m a := rfl

theorem Memory.read_erase (m : Memory w) (a b : Nat) :
    Memory.read (Memory.erase m a) b = if b = a then 0#w else Memory.read m b := by
  induction m with
  | nil => simp [Memory.erase]
  | cons p m ih =>
    obtain ⟨k, v⟩ := p
    by_cases hk : k = a <;> simp only [Memory.erase, hk, if_true, if_false, Memory.read_cons, ih]
    · grind
    · grind

theorem Memory.read_insert (m : Memory w) (a b : Nat) (v : BitVec w) (h : Memory.read m a = 0#w)
    (hm : ∀ p ∈ m, p.1 ≠ a) : Memory.read (Memory.insert m a v) b = if b = a then v else Memory.read m b := by
  induction m with
  | nil => simp [Memory.insert, Memory.read_cons, eq_comm]
  | cons p m ih =>
    obtain ⟨k, x⟩ := p
    have hk : k ≠ a := hm (k, x) (by simp)
    have ih' := ih (by simpa [Memory.read_cons, hk] using h) (fun q hq => hm q (by simp [hq]))
    by_cases hak : a < k <;> simp only [Memory.insert, hak, if_true, if_false, Memory.read_cons, ih'] <;> grind

theorem Memory.erase_ne (m : Memory w) (a : Nat) : ∀ p ∈ Memory.erase m a, p.1 ≠ a := by
  induction m with
  | nil => simp [Memory.erase]
  | cons p m ih =>
    obtain ⟨k, v⟩ := p
    by_cases hk : k = a <;> simp only [Memory.erase, hk, if_true, if_false]
    · exact ih
    · simpa using ⟨hk, fun a_1 b h => ih _ h⟩

/-- Everything a write does to what is read. -/
theorem Memory.read_write (m : Memory w) (a b : Nat) (v : BitVec w) :
    Memory.read (Memory.write m a v) b = if b = a then v else Memory.read m b := by
  unfold Memory.write
  split
  · rename_i h
    simp only [Memory.unlisted] at h
    simp [Memory.read_erase, h]
  · rename_i h
    simp only [Memory.unlisted] at h
    rw [Memory.read_insert _ _ _ _ (by simp [Memory.read_erase]) (Memory.erase_ne m a), Memory.read_erase]
    grind

@[simp] theorem Memory.read_write_same (m : Memory w) (a : Nat) (v : BitVec w) :
    Memory.read (Memory.write m a v) a = v := by simp [Memory.read_write]

theorem Memory.read_write_ne (m : Memory w) (a b : Nat) (v : BitVec w) (h : b ≠ a) :
    Memory.read (Memory.write m a v) b = Memory.read m b := by simp [Memory.read_write, h]

theorem Memory.wfFrom_mono {size lo lo' : Nat} (m : Memory w) (h : lo' ≤ lo) (hm : Memory.wfFrom size lo m = true) :
    Memory.wfFrom size lo' m = true := by
  cases m with
  | nil => rfl
  | cons p m =>
    obtain ⟨k, v⟩ := p
    simp only [Memory.wfFrom, Bool.and_eq_true, decide_eq_true_eq] at hm ⊢
    exact ⟨⟨⟨by omega, hm.1.1.2⟩, hm.1.2⟩, hm.2⟩

theorem Memory.wfFrom_erase {size lo : Nat} (m : Memory w) (a : Nat) (hm : Memory.wfFrom size lo m = true) :
    Memory.wfFrom size lo (Memory.erase m a) = true := by
  induction m generalizing lo with
  | nil => rfl
  | cons p m ih =>
    obtain ⟨k, v⟩ := p
    simp only [Memory.wfFrom, Bool.and_eq_true, decide_eq_true_eq] at hm
    by_cases hk : k = a
    · simp only [Memory.erase, hk, if_true]
      exact Memory.wfFrom_mono _ (by omega) (ih hm.2)
    · simp only [Memory.erase, hk, if_false, Memory.wfFrom, Bool.and_eq_true, decide_eq_true_eq]
      exact ⟨hm.1, ih hm.2⟩

theorem Memory.wfFrom_insert {size lo : Nat} (m : Memory w) (a : Nat) (v : BitVec w) (hv : v ≠ Memory.unlisted w)
    (ha : a < size) (hlo : lo ≤ a) (hne : ∀ p ∈ m, p.1 ≠ a) (hm : Memory.wfFrom size lo m = true) :
    Memory.wfFrom size lo (Memory.insert m a v) = true := by
  induction m generalizing lo with
  | nil => simp [Memory.insert, Memory.wfFrom, hv, ha, hlo]
  | cons p m ih =>
    obtain ⟨k, x⟩ := p
    have hk : k ≠ a := hne (k, x) (by simp)
    simp only [Memory.wfFrom, Bool.and_eq_true, decide_eq_true_eq] at hm
    by_cases hak : a < k
    · simp only [Memory.insert, hak, if_true, Memory.wfFrom, Bool.and_eq_true, decide_eq_true_eq]
      exact ⟨⟨⟨hlo, ha⟩, hv⟩, ⟨⟨by omega, hm.1.1.2⟩, hm.1.2⟩, hm.2⟩
    · simp only [Memory.insert, hak, if_false, Memory.wfFrom, Bool.and_eq_true, decide_eq_true_eq]
      exact ⟨hm.1, ih (by omega) (fun q hq => hne q (by simp [hq])) hm.2⟩

/-- A write inside the array keeps its canonical form. -/
theorem Memory.wf_write {size : Nat} (m : Memory w) (a : Nat) (v : BitVec w) (ha : a < size)
    (hm : Memory.wf size m = true) : Memory.wf size (Memory.write m a v) = true := by
  unfold Memory.write Memory.wf
  split
  · exact Memory.wfFrom_erase m a hm
  · rename_i h
    exact Memory.wfFrom_insert _ _ _ h ha (Nat.zero_le a) (Memory.erase_ne m a) (Memory.wfFrom_erase m a hm)

theorem Memory.wfFrom_read {size lo : Nat} (m : Memory w) (hm : Memory.wfFrom size lo m = true) (a : Nat) (ha : a < lo) :
    Memory.read m a = 0#w := by
  induction m generalizing lo with
  | nil => rfl
  | cons p m ih =>
    obtain ⟨k, v⟩ := p
    simp only [Memory.wfFrom, Bool.and_eq_true, decide_eq_true_eq] at hm
    rw [Memory.read_cons, if_neg (by omega)]
    exact ih hm.2 (by omega)

/-- Two arrays in canonical form that read the same everywhere are the same data. -/
theorem Memory.eq_of_read {size size' lo lo' : Nat} (m m' : Memory w) (hm : Memory.wfFrom size lo m = true)
    (hm' : Memory.wfFrom size' lo' m' = true) (h : ∀ a, Memory.read m a = Memory.read m' a) : m = m' := by
  induction m generalizing m' lo lo' with
  | nil =>
    cases m' with
    | nil => rfl
    | cons p m' =>
      obtain ⟨k, v⟩ := p
      simp only [Memory.wfFrom, Bool.and_eq_true, decide_eq_true_eq] at hm'
      have := h k
      simp [Memory.read_cons] at this
      exact absurd this.symm hm'.1.2
  | cons p m ih =>
    obtain ⟨k, v⟩ := p
    simp only [Memory.wfFrom, Bool.and_eq_true, decide_eq_true_eq] at hm
    cases m' with
    | nil =>
      have := h k
      simp [Memory.read_cons] at this
      exact absurd this hm.1.2
    | cons q m' =>
      obtain ⟨k', v'⟩ := q
      simp only [Memory.wfFrom, Bool.and_eq_true, decide_eq_true_eq] at hm'
      have hk : k = k' := by
        rcases Nat.lt_trichotomy k k' with hlt | heq | hgt
        · have := h k
          rw [Memory.read_cons, if_pos rfl, Memory.read_cons, if_neg (by omega),
            Memory.wfFrom_read m' hm'.2 k (by omega)] at this
          exact absurd this hm.1.2
        · exact heq
        · have := h k'
          rw [Memory.read_cons, if_neg (by omega), Memory.read_cons, if_pos rfl,
            Memory.wfFrom_read m hm.2 k' (by omega)] at this
          exact absurd this.symm hm'.1.2
      subst hk
      have hv : v = v' := by simpa [Memory.read_cons] using h k
      subst hv
      congr 1
      refine ih m' hm.2 hm'.2 (fun a => ?_)
      by_cases hak : k = a
      · subst hak
        rw [Memory.wfFrom_read m hm.2 k (by omega), Memory.wfFrom_read m' hm'.2 k (by omega)]
      · simpa [Memory.read_cons, hak] using h a

theorem Memory.read_ofListFrom (vs : List (BitVec w)) (k a : Nat) :
    Memory.read (Memory.ofListFrom k vs) a = if a < k then 0#w else vs.getD (a - k) 0#w := by
  induction vs generalizing k with
  | nil => simp [Memory.ofListFrom]
  | cons v vs ih =>
    have step : (if a < k + 1 then 0#w else vs.getD (a - (k + 1)) 0#w) =
        if a ≤ k then 0#w else (v :: vs).getD (a - k) 0#w := by
      by_cases h : a ≤ k
      · simp [h, Nat.lt_succ_of_le h]
      · obtain ⟨d, hd⟩ : ∃ d, a = k + 1 + d := ⟨a - (k + 1), by omega⟩
        subst hd
        simp [show ¬ (k + 1 + d < k + 1) by omega, show ¬ (k + 1 + d ≤ k) by omega,
          show k + 1 + d - k = d + 1 by omega]
    unfold Memory.ofListFrom
    split
    · rename_i hv
      simp only [Memory.unlisted] at hv
      rw [ih, step]
      rcases Nat.lt_trichotomy a k with h | h | h
      · simp [h, Nat.le_of_lt h]
      · subst h; simp [hv]
      · simp [show ¬ a ≤ k by omega, show ¬ a < k by omega]
    · rw [Memory.read_cons, ih, step]
      rcases Nat.lt_trichotomy a k with h | h | h
      · simp [h, Nat.le_of_lt h, show k ≠ a by omega]
      · subst h; simp
      · simp [show ¬ a ≤ k by omega, show ¬ a < k by omega, show k ≠ a by omega]

/-- A loaded image reads as the list it was loaded from. -/
theorem Memory.read_ofList (vs : List (BitVec w)) (a : Nat) : Memory.read (Memory.ofList vs) a = vs.getD a 0#w := by
  simp [Memory.ofList, Memory.read_ofListFrom]

theorem Memory.wfFrom_ofListFrom (vs : List (BitVec w)) (k size : Nat) (h : k + vs.length ≤ size) :
    Memory.wfFrom size k (Memory.ofListFrom k vs) = true := by
  induction vs generalizing k with
  | nil => rfl
  | cons v vs ih =>
    have ih' := ih (k + 1) (by simp at h; omega)
    unfold Memory.ofListFrom
    split
    · exact Memory.wfFrom_mono _ (by omega) ih'
    · rename_i hv
      simp only [Memory.wfFrom, Bool.and_eq_true, decide_eq_true_eq]
      exact ⟨⟨⟨by omega, by simp at h; omega⟩, hv⟩, ih'⟩

/-- A loaded image is in canonical form. -/
theorem Memory.wf_ofList (vs : List (BitVec w)) (size : Nat) (h : vs.length ≤ size) :
    Memory.wf size (Memory.ofList vs) = true := Memory.wfFrom_ofListFrom vs 0 size (by omega)

end Sys2Proof.Machine
end

