-- ==== Sys2Proof/Laws/State.lean ====
section
/-! SUPPORT. What each named update of the state does to each field: one lemma per field, so that no proof unfolds a
record update. -/

namespace Sys2Proof.Machine

@[simp] theorem setReg_ifReg (r : Reg8) (v : Byte) (s : State) : (setReg r v s).ifReg = s.ifReg := by cases r <;> rfl
@[simp] theorem setReg_ie (r : Reg8) (v : Byte) (s : State) : (setReg r v s).ie = s.ie := by cases r <;> rfl
@[simp] theorem setReg_timer (r : Reg8) (v : Byte) (s : State) : (setReg r v s).timer = s.timer := by cases r <;> rfl
@[simp] theorem setReg_ppu (r : Reg8) (v : Byte) (s : State) : (setReg r v s).ppu = s.ppu := by cases r <;> rfl
@[simp] theorem setReg_joypad (r : Reg8) (v : Byte) (s : State) :
    (setReg r v s).joypad = s.joypad := by cases r <;> rfl
@[simp] theorem setReg_mbc (r : Reg8) (v : Byte) (s : State) : (setReg r v s).mbc = s.mbc := by cases r <;> rfl
@[simp] theorem setReg_arrays (r : Reg8) (v : Byte) (s : State) :
    (setReg r v s).arrays = s.arrays := by cases r <;> rfl
@[simp] theorem setReg_bootEnabled (r : Reg8) (v : Byte) (s : State) :
    (setReg r v s).bootEnabled = s.bootEnabled := by cases r <;> rfl
@[simp] theorem setReg_params (r : Reg8) (v : Byte) (s : State) :
    (setReg r v s).params = s.params := by cases r <;> rfl
@[simp] theorem setReg_cpu_f (r : Reg8) (v : Byte) (s : State) : (setReg r v s).cpu.f = s.cpu.f := by cases r <;> rfl
@[simp] theorem setReg_cpu_sp (r : Reg8) (v : Byte) (s : State) :
    (setReg r v s).cpu.sp = s.cpu.sp := by cases r <;> rfl
@[simp] theorem setReg_cpu_pc (r : Reg8) (v : Byte) (s : State) :
    (setReg r v s).cpu.pc = s.cpu.pc := by cases r <;> rfl
@[simp] theorem setReg_cpu_ime (r : Reg8) (v : Byte) (s : State) :
    (setReg r v s).cpu.ime = s.cpu.ime := by cases r <;> rfl
@[simp] theorem setReg_cpu_eiPending (r : Reg8) (v : Byte) (s : State) :
    (setReg r v s).cpu.eiPending = s.cpu.eiPending := by cases r <;> rfl
@[simp] theorem setReg_cpu_runState (r : Reg8) (v : Byte) (s : State) :
    (setReg r v s).cpu.runState = s.cpu.runState := by cases r <;> rfl
@[simp] theorem setReg_cpu_fault (r : Reg8) (v : Byte) (s : State) :
    (setReg r v s).cpu.fault = s.cpu.fault := by cases r <;> rfl

@[simp] theorem getReg_setReg_same (r : Reg8) (v : Byte) (s : State) : getReg r (setReg r v s) = v := by cases r <;> rfl
theorem getReg_setReg (q r : Reg8) (v : Byte) (s : State) :
    getReg q (setReg r v s) = if q = r then v else getReg q s := by cases r <;> cases q <;> rfl

@[simp] theorem setFlags_ifReg (f : Flags) (s : State) : (setFlags f s).ifReg = s.ifReg := rfl
@[simp] theorem setFlags_ie (f : Flags) (s : State) : (setFlags f s).ie = s.ie := rfl
@[simp] theorem setFlags_timer (f : Flags) (s : State) : (setFlags f s).timer = s.timer := rfl
@[simp] theorem setFlags_ppu (f : Flags) (s : State) : (setFlags f s).ppu = s.ppu := rfl
@[simp] theorem setFlags_joypad (f : Flags) (s : State) : (setFlags f s).joypad = s.joypad := rfl
@[simp] theorem setFlags_mbc (f : Flags) (s : State) : (setFlags f s).mbc = s.mbc := rfl
@[simp] theorem setFlags_arrays (f : Flags) (s : State) : (setFlags f s).arrays = s.arrays := rfl
@[simp] theorem setFlags_bootEnabled (f : Flags) (s : State) : (setFlags f s).bootEnabled = s.bootEnabled := rfl
@[simp] theorem setFlags_params (f : Flags) (s : State) : (setFlags f s).params = s.params := rfl
@[simp] theorem setFlags_cpu_a (f : Flags) (s : State) : (setFlags f s).cpu.a = s.cpu.a := rfl
@[simp] theorem setFlags_cpu_b (f : Flags) (s : State) : (setFlags f s).cpu.b = s.cpu.b := rfl
@[simp] theorem setFlags_cpu_c (f : Flags) (s : State) : (setFlags f s).cpu.c = s.cpu.c := rfl
@[simp] theorem setFlags_cpu_d (f : Flags) (s : State) : (setFlags f s).cpu.d = s.cpu.d := rfl
@[simp] theorem setFlags_cpu_e (f : Flags) (s : State) : (setFlags f s).cpu.e = s.cpu.e := rfl
@[simp] theorem setFlags_cpu_h (f : Flags) (s : State) : (setFlags f s).cpu.h = s.cpu.h := rfl
@[simp] theorem setFlags_cpu_l (f : Flags) (s : State) : (setFlags f s).cpu.l = s.cpu.l := rfl
@[simp] theorem setFlags_cpu_f (f : Flags) (s : State) : (setFlags f s).cpu.f = f := rfl
@[simp] theorem setFlags_cpu_sp (f : Flags) (s : State) : (setFlags f s).cpu.sp = s.cpu.sp := rfl
@[simp] theorem setFlags_cpu_pc (f : Flags) (s : State) : (setFlags f s).cpu.pc = s.cpu.pc := rfl
@[simp] theorem setFlags_cpu_ime (f : Flags) (s : State) : (setFlags f s).cpu.ime = s.cpu.ime := rfl
@[simp] theorem setFlags_cpu_eiPending (f : Flags) (s : State) : (setFlags f s).cpu.eiPending = s.cpu.eiPending := rfl
@[simp] theorem setFlags_cpu_runState (f : Flags) (s : State) : (setFlags f s).cpu.runState = s.cpu.runState := rfl
@[simp] theorem setFlags_cpu_fault (f : Flags) (s : State) : (setFlags f s).cpu.fault = s.cpu.fault := rfl

@[simp] theorem setPc_ifReg (v : Word) (s : State) : (setPc v s).ifReg = s.ifReg := rfl
@[simp] theorem setPc_ie (v : Word) (s : State) : (setPc v s).ie = s.ie := rfl
@[simp] theorem setPc_timer (v : Word) (s : State) : (setPc v s).timer = s.timer := rfl
@[simp] theorem setPc_ppu (v : Word) (s : State) : (setPc v s).ppu = s.ppu := rfl
@[simp] theorem setPc_joypad (v : Word) (s : State) : (setPc v s).joypad = s.joypad := rfl
@[simp] theorem setPc_mbc (v : Word) (s : State) : (setPc v s).mbc = s.mbc := rfl
@[simp] theorem setPc_arrays (v : Word) (s : State) : (setPc v s).arrays = s.arrays := rfl
@[simp] theorem setPc_bootEnabled (v : Word) (s : State) : (setPc v s).bootEnabled = s.bootEnabled := rfl
@[simp] theorem setPc_params (v : Word) (s : State) : (setPc v s).params = s.params := rfl
@[simp] theorem setPc_cpu_a (v : Word) (s : State) : (setPc v s).cpu.a = s.cpu.a := rfl
@[simp] theorem setPc_cpu_b (v : Word) (s : State) : (setPc v s).cpu.b = s.cpu.b := rfl
@[simp] theorem setPc_cpu_c (v : Word) (s : State) : (setPc v s).cpu.c = s.cpu.c := rfl
@[simp] theorem setPc_cpu_d (v : Word) (s : State) : (setPc v s).cpu.d = s.cpu.d := rfl
@[simp] theorem setPc_cpu_e (v : Word) (s : State) : (setPc v s).cpu.e = s.cpu.e := rfl
@[simp] theorem setPc_cpu_h (v : Word) (s : State) : (setPc v s).cpu.h = s.cpu.h := rfl
@[simp] theorem setPc_cpu_l (v : Word) (s : State) : (setPc v s).cpu.l = s.cpu.l := rfl
@[simp] theorem setPc_cpu_f (v : Word) (s : State) : (setPc v s).cpu.f = s.cpu.f := rfl
@[simp] theorem setPc_cpu_sp (v : Word) (s : State) : (setPc v s).cpu.sp = s.cpu.sp := rfl
@[simp] theorem setPc_cpu_pc (v : Word) (s : State) : (setPc v s).cpu.pc = v := rfl
@[simp] theorem setPc_cpu_ime (v : Word) (s : State) : (setPc v s).cpu.ime = s.cpu.ime := rfl
@[simp] theorem setPc_cpu_eiPending (v : Word) (s : State) : (setPc v s).cpu.eiPending = s.cpu.eiPending := rfl
@[simp] theorem setPc_cpu_runState (v : Word) (s : State) : (setPc v s).cpu.runState = s.cpu.runState := rfl
@[simp] theorem setPc_cpu_fault (v : Word) (s : State) : (setPc v s).cpu.fault = s.cpu.fault := rfl

@[simp] theorem setSp_ifReg (v : Word) (s : State) : (setSp v s).ifReg = s.ifReg := rfl
@[simp] theorem setSp_ie (v : Word) (s : State) : (setSp v s).ie = s.ie := rfl
@[simp] theorem setSp_timer (v : Word) (s : State) : (setSp v s).timer = s.timer := rfl
@[simp] theorem setSp_ppu (v : Word) (s : State) : (setSp v s).ppu = s.ppu := rfl
@[simp] theorem setSp_joypad (v : Word) (s : State) : (setSp v s).joypad = s.joypad := rfl
@[simp] theorem setSp_mbc (v : Word) (s : State) : (setSp v s).mbc = s.mbc := rfl
@[simp] theorem setSp_arrays (v : Word) (s : State) : (setSp v s).arrays = s.arrays := rfl
@[simp] theorem setSp_bootEnabled (v : Word) (s : State) : (setSp v s).bootEnabled = s.bootEnabled := rfl
@[simp] theorem setSp_params (v : Word) (s : State) : (setSp v s).params = s.params := rfl
@[simp] theorem setSp_cpu_a (v : Word) (s : State) : (setSp v s).cpu.a = s.cpu.a := rfl
@[simp] theorem setSp_cpu_b (v : Word) (s : State) : (setSp v s).cpu.b = s.cpu.b := rfl
@[simp] theorem setSp_cpu_c (v : Word) (s : State) : (setSp v s).cpu.c = s.cpu.c := rfl
@[simp] theorem setSp_cpu_d (v : Word) (s : State) : (setSp v s).cpu.d = s.cpu.d := rfl
@[simp] theorem setSp_cpu_e (v : Word) (s : State) : (setSp v s).cpu.e = s.cpu.e := rfl
@[simp] theorem setSp_cpu_h (v : Word) (s : State) : (setSp v s).cpu.h = s.cpu.h := rfl
@[simp] theorem setSp_cpu_l (v : Word) (s : State) : (setSp v s).cpu.l = s.cpu.l := rfl
@[simp] theorem setSp_cpu_f (v : Word) (s : State) : (setSp v s).cpu.f = s.cpu.f := rfl
@[simp] theorem setSp_cpu_sp (v : Word) (s : State) : (setSp v s).cpu.sp = v := rfl
@[simp] theorem setSp_cpu_pc (v : Word) (s : State) : (setSp v s).cpu.pc = s.cpu.pc := rfl
@[simp] theorem setSp_cpu_ime (v : Word) (s : State) : (setSp v s).cpu.ime = s.cpu.ime := rfl
@[simp] theorem setSp_cpu_eiPending (v : Word) (s : State) : (setSp v s).cpu.eiPending = s.cpu.eiPending := rfl
@[simp] theorem setSp_cpu_runState (v : Word) (s : State) : (setSp v s).cpu.runState = s.cpu.runState := rfl
@[simp] theorem setSp_cpu_fault (v : Word) (s : State) : (setSp v s).cpu.fault = s.cpu.fault := rfl

@[simp] theorem setIme_ifReg (v : Bool) (s : State) : (setIme v s).ifReg = s.ifReg := rfl
@[simp] theorem setIme_ie (v : Bool) (s : State) : (setIme v s).ie = s.ie := rfl
@[simp] theorem setIme_timer (v : Bool) (s : State) : (setIme v s).timer = s.timer := rfl
@[simp] theorem setIme_ppu (v : Bool) (s : State) : (setIme v s).ppu = s.ppu := rfl
@[simp] theorem setIme_joypad (v : Bool) (s : State) : (setIme v s).joypad = s.joypad := rfl
@[simp] theorem setIme_mbc (v : Bool) (s : State) : (setIme v s).mbc = s.mbc := rfl
@[simp] theorem setIme_arrays (v : Bool) (s : State) : (setIme v s).arrays = s.arrays := rfl
@[simp] theorem setIme_bootEnabled (v : Bool) (s : State) : (setIme v s).bootEnabled = s.bootEnabled := rfl
@[simp] theorem setIme_params (v : Bool) (s : State) : (setIme v s).params = s.params := rfl
@[simp] theorem setIme_cpu_a (v : Bool) (s : State) : (setIme v s).cpu.a = s.cpu.a := rfl
@[simp] theorem setIme_cpu_b (v : Bool) (s : State) : (setIme v s).cpu.b = s.cpu.b := rfl
@[simp] theorem setIme_cpu_c (v : Bool) (s : State) : (setIme v s).cpu.c = s.cpu.c := rfl
@[simp] theorem setIme_cpu_d (v : Bool) (s : State) : (setIme v s).cpu.d = s.cpu.d := rfl
@[simp] theorem setIme_cpu_e (v : Bool) (s : State) : (setIme v s).cpu.e = s.cpu.e := rfl
@[simp] theorem setIme_cpu_h (v : Bool) (s : State) : (setIme v s).cpu.h = s.cpu.h := rfl
@[simp] theorem setIme_cpu_l (v : Bool) (s : State) : (setIme v s).cpu.l = s.cpu.l := rfl
@[simp] theorem setIme_cpu_f (v : Bool) (s : State) : (setIme v s).cpu.f = s.cpu.f := rfl
@[simp] theorem setIme_cpu_sp (v : Bool) (s : State) : (setIme v s).cpu.sp = s.cpu.sp := rfl
@[simp] theorem setIme_cpu_pc (v : Bool) (s : State) : (setIme v s).cpu.pc = s.cpu.pc := rfl
@[simp] theorem setIme_cpu_ime (v : Bool) (s : State) : (setIme v s).cpu.ime = v := rfl
@[simp] theorem setIme_cpu_eiPending (v : Bool) (s : State) : (setIme v s).cpu.eiPending = s.cpu.eiPending := rfl
@[simp] theorem setIme_cpu_runState (v : Bool) (s : State) : (setIme v s).cpu.runState = s.cpu.runState := rfl
@[simp] theorem setIme_cpu_fault (v : Bool) (s : State) : (setIme v s).cpu.fault = s.cpu.fault := rfl

@[simp] theorem setRunState_ifReg (v : RunState) (s : State) : (setRunState v s).ifReg = s.ifReg := rfl
@[simp] theorem setRunState_ie (v : RunState) (s : State) : (setRunState v s).ie = s.ie := rfl
@[simp] theorem setRunState_timer (v : RunState) (s : State) : (setRunState v s).timer = s.timer := rfl
@[simp] theorem setRunState_ppu (v : RunState) (s : State) : (setRunState v s).ppu = s.ppu := rfl
@[simp] theorem setRunState_joypad (v : RunState) (s : State) : (setRunState v s).joypad = s.joypad := rfl
@[simp] theorem setRunState_mbc (v : RunState) (s : State) : (setRunState v s).mbc = s.mbc := rfl
@[simp] theorem setRunState_arrays (v : RunState) (s : State) : (setRunState v s).arrays = s.arrays := rfl
@[simp] theorem setRunState_bootEnabled (v : RunState) (s : State) :
    (setRunState v s).bootEnabled = s.bootEnabled := rfl
@[simp] theorem setRunState_params (v : RunState) (s : State) : (setRunState v s).params = s.params := rfl
@[simp] theorem setRunState_cpu_a (v : RunState) (s : State) : (setRunState v s).cpu.a = s.cpu.a := rfl
@[simp] theorem setRunState_cpu_b (v : RunState) (s : State) : (setRunState v s).cpu.b = s.cpu.b := rfl
@[simp] theorem setRunState_cpu_c (v : RunState) (s : State) : (setRunState v s).cpu.c = s.cpu.c := rfl
@[simp] theorem setRunState_cpu_d (v : RunState) (s : State) : (setRunState v s).cpu.d = s.cpu.d := rfl
@[simp] theorem setRunState_cpu_e (v : RunState) (s : State) : (setRunState v s).cpu.e = s.cpu.e := rfl
@[simp] theorem setRunState_cpu_h (v : RunState) (s : State) : (setRunState v s).cpu.h = s.cpu.h := rfl
@[simp] theorem setRunState_cpu_l (v : RunState) (s : State) : (setRunState v s).cpu.l = s.cpu.l := rfl
@[simp] theorem setRunState_cpu_f (v : RunState) (s : State) : (setRunState v s).cpu.f = s.cpu.f := rfl
@[simp] theorem setRunState_cpu_sp (v : RunState) (s : State) : (setRunState v s).cpu.sp = s.cpu.sp := rfl
@[simp] theorem setRunState_cpu_pc (v : RunState) (s : State) : (setRunState v s).cpu.pc = s.cpu.pc := rfl
@[simp] theorem setRunState_cpu_ime (v : RunState) (s : State) : (setRunState v s).cpu.ime = s.cpu.ime := rfl
@[simp] theorem setRunState_cpu_eiPending (v : RunState) (s : State) :
    (setRunState v s).cpu.eiPending = s.cpu.eiPending := rfl
@[simp] theorem setRunState_cpu_runState (v : RunState) (s : State) : (setRunState v s).cpu.runState = v := rfl
@[simp] theorem setRunState_cpu_fault (v : RunState) (s : State) : (setRunState v s).cpu.fault = s.cpu.fault := rfl

@[simp] theorem setEiPending_ifReg (s : State) : (setEiPending s).ifReg = s.ifReg := rfl
@[simp] theorem setEiPending_ie (s : State) : (setEiPending s).ie = s.ie := rfl
@[simp] theorem setEiPending_timer (s : State) : (setEiPending s).timer = s.timer := rfl
@[simp] theorem setEiPending_ppu (s : State) : (setEiPending s).ppu = s.ppu := rfl
@[simp] theorem setEiPending_joypad (s : State) : (setEiPending s).joypad = s.joypad := rfl
@[simp] theorem setEiPending_mbc (s : State) : (setEiPending s).mbc = s.mbc := rfl
@[simp] theorem setEiPending_arrays (s : State) : (setEiPending s).arrays = s.arrays := rfl
@[simp] theorem setEiPending_bootEnabled (s : State) : (setEiPending s).bootEnabled = s.bootEnabled := rfl
@[simp] theorem setEiPending_params (s : State) : (setEiPending s).params = s.params := rfl
@[simp] theorem setEiPending_cpu_a (s : State) : (setEiPending s).cpu.a = s.cpu.a := rfl
@[simp] theorem setEiPending_cpu_b (s : State) : (setEiPending s).cpu.b = s.cpu.b := rfl
@[simp] theorem setEiPending_cpu_c (s : State) : (setEiPending s).cpu.c = s.cpu.c := rfl
@[simp] theorem setEiPending_cpu_d (s : State) : (setEiPending s).cpu.d = s.cpu.d := rfl
@[simp] theorem setEiPending_cpu_e (s : State) : (setEiPending s).cpu.e = s.cpu.e := rfl
@[simp] theorem setEiPending_cpu_h (s : State) : (setEiPending s).cpu.h = s.cpu.h := rfl
@[simp] theorem setEiPending_cpu_l (s : State) : (setEiPending s).cpu.l = s.cpu.l := rfl
@[simp] theorem setEiPending_cpu_f (s : State) : (setEiPending s).cpu.f = s.cpu.f := rfl
@[simp] theorem setEiPending_cpu_sp (s : State) : (setEiPending s).cpu.sp = s.cpu.sp := rfl
@[simp] theorem setEiPending_cpu_pc (s : State) : (setEiPending s).cpu.pc = s.cpu.pc := rfl
@[simp] theorem setEiPending_cpu_ime (s : State) : (setEiPending s).cpu.ime = s.cpu.ime := rfl
@[simp] theorem setEiPending_cpu_eiPending (s : State) : (setEiPending s).cpu.eiPending = true := rfl
@[simp] theorem setEiPending_cpu_runState (s : State) : (setEiPending s).cpu.runState = s.cpu.runState := rfl
@[simp] theorem setEiPending_cpu_fault (s : State) : (setEiPending s).cpu.fault = s.cpu.fault := rfl

@[simp] theorem raiseFault_ifReg (f : Fault) (s : State) : (raiseFault f s).ifReg = s.ifReg := rfl
@[simp] theorem raiseFault_ie (f : Fault) (s : State) : (raiseFault f s).ie = s.ie := rfl
@[simp] theorem raiseFault_timer (f : Fault) (s : State) : (raiseFault f s).timer = s.timer := rfl
@[simp] theorem raiseFault_ppu (f : Fault) (s : State) : (raiseFault f s).ppu = s.ppu := rfl
@[simp] theorem raiseFault_joypad (f : Fault) (s : State) : (raiseFault f s).joypad = s.joypad := rfl
@[simp] theorem raiseFault_mbc (f : Fault) (s : State) : (raiseFault f s).mbc = s.mbc := rfl
@[simp] theorem raiseFault_arrays (f : Fault) (s : State) : (raiseFault f s).arrays = s.arrays := rfl
@[simp] theorem raiseFault_bootEnabled (f : Fault) (s : State) : (raiseFault f s).bootEnabled = s.bootEnabled := rfl
@[simp] theorem raiseFault_params (f : Fault) (s : State) : (raiseFault f s).params = s.params := rfl
@[simp] theorem raiseFault_cpu_a (f : Fault) (s : State) : (raiseFault f s).cpu.a = s.cpu.a := rfl
@[simp] theorem raiseFault_cpu_b (f : Fault) (s : State) : (raiseFault f s).cpu.b = s.cpu.b := rfl
@[simp] theorem raiseFault_cpu_c (f : Fault) (s : State) : (raiseFault f s).cpu.c = s.cpu.c := rfl
@[simp] theorem raiseFault_cpu_d (f : Fault) (s : State) : (raiseFault f s).cpu.d = s.cpu.d := rfl
@[simp] theorem raiseFault_cpu_e (f : Fault) (s : State) : (raiseFault f s).cpu.e = s.cpu.e := rfl
@[simp] theorem raiseFault_cpu_h (f : Fault) (s : State) : (raiseFault f s).cpu.h = s.cpu.h := rfl
@[simp] theorem raiseFault_cpu_l (f : Fault) (s : State) : (raiseFault f s).cpu.l = s.cpu.l := rfl
@[simp] theorem raiseFault_cpu_f (f : Fault) (s : State) : (raiseFault f s).cpu.f = s.cpu.f := rfl
@[simp] theorem raiseFault_cpu_sp (f : Fault) (s : State) : (raiseFault f s).cpu.sp = s.cpu.sp := rfl
@[simp] theorem raiseFault_cpu_pc (f : Fault) (s : State) : (raiseFault f s).cpu.pc = s.cpu.pc := rfl
@[simp] theorem raiseFault_cpu_ime (f : Fault) (s : State) : (raiseFault f s).cpu.ime = s.cpu.ime := rfl
@[simp] theorem raiseFault_cpu_eiPending (f : Fault) (s : State) :
    (raiseFault f s).cpu.eiPending = s.cpu.eiPending := rfl
@[simp] theorem raiseFault_cpu_runState (f : Fault) (s : State) :
    (raiseFault f s).cpu.runState = s.cpu.runState := rfl
@[simp] theorem raiseFault_cpu_fault (f : Fault) (s : State) : (raiseFault f s).cpu.fault = some f := rfl

@[simp] theorem setPair_ifReg (p : Pair) (v : Word) (s : State) :
    (setPair p v s).ifReg = s.ifReg := by cases p <;> rfl
@[simp] theorem setPair_ie (p : Pair) (v : Word) (s : State) : (setPair p v s).ie = s.ie := by cases p <;> rfl
@[simp] theorem setPair_timer (p : Pair) (v : Word) (s : State) :
    (setPair p v s).timer = s.timer := by cases p <;> rfl
@[simp] theorem setPair_ppu (p : Pair) (v : Word) (s : State) : (setPair p v s).ppu = s.ppu := by cases p <;> rfl
@[simp] theorem setPair_joypad (p : Pair) (v : Word) (s : State) :
    (setPair p v s).joypad = s.joypad := by cases p <;> rfl
@[simp] theorem setPair_mbc (p : Pair) (v : Word) (s : State) : (setPair p v s).mbc = s.mbc := by cases p <;> rfl
@[simp] theorem setPair_arrays (p : Pair) (v : Word) (s : State) :
    (setPair p v s).arrays = s.arrays := by cases p <;> rfl
@[simp] theorem setPair_bootEnabled (p : Pair) (v : Word) (s : State) :
    (setPair p v s).bootEnabled = s.bootEnabled := by cases p <;> rfl
@[simp] theorem setPair_params (p : Pair) (v : Word) (s : State) :
    (setPair p v s).params = s.params := by cases p <;> rfl
@[simp] theorem setPair_cpu_f (p : Pair) (v : Word) (s : State) :
    (setPair p v s).cpu.f = s.cpu.f := by cases p <;> rfl
@[simp] theorem setPair_cpu_pc (p : Pair) (v : Word) (s : State) :
    (setPair p v s).cpu.pc = s.cpu.pc := by cases p <;> rfl
@[simp] theorem setPair_cpu_ime (p : Pair) (v : Word) (s : State) :
    (setPair p v s).cpu.ime = s.cpu.ime := by cases p <;> rfl
@[simp] theorem setPair_cpu_eiPending (p : Pair) (v : Word) (s : State) :
    (setPair p v s).cpu.eiPending = s.cpu.eiPending := by cases p <;> rfl
@[simp] theorem setPair_cpu_runState (p : Pair) (v : Word) (s : State) :
    (setPair p v s).cpu.runState = s.cpu.runState := by cases p <;> rfl
@[simp] theorem setPair_cpu_fault (p : Pair) (v : Word) (s : State) :
    (setPair p v s).cpu.fault = s.cpu.fault := by cases p <;> rfl

@[simp] theorem setStackPair_ifReg (p : StackPair) (v : Word) (s : State) :
    (setStackPair p v s).ifReg = s.ifReg := by cases p <;> rfl
@[simp] theorem setStackPair_ie (p : StackPair) (v : Word) (s : State) :
    (setStackPair p v s).ie = s.ie := by cases p <;> rfl
@[simp] theorem setStackPair_timer (p : StackPair) (v : Word) (s : State) :
    (setStackPair p v s).timer = s.timer := by cases p <;> rfl
@[simp] theorem setStackPair_ppu (p : StackPair) (v : Word) (s : State) :
    (setStackPair p v s).ppu = s.ppu := by cases p <;> rfl
@[simp] theorem setStackPair_joypad (p : StackPair) (v : Word) (s : State) :
    (setStackPair p v s).joypad = s.joypad := by cases p <;> rfl
@[simp] theorem setStackPair_mbc (p : StackPair) (v : Word) (s : State) :
    (setStackPair p v s).mbc = s.mbc := by cases p <;> rfl
@[simp] theorem setStackPair_arrays (p : StackPair) (v : Word) (s : State) :
    (setStackPair p v s).arrays = s.arrays := by cases p <;> rfl
@[simp] theorem setStackPair_bootEnabled (p : StackPair) (v : Word) (s : State) :
    (setStackPair p v s).bootEnabled = s.bootEnabled := by cases p <;> rfl
@[simp] theorem setStackPair_params (p : StackPair) (v : Word) (s : State) :
    (setStackPair p v s).params = s.params := by cases p <;> rfl
@[simp] theorem setStackPair_cpu_sp (p : StackPair) (v : Word) (s : State) :
    (setStackPair p v s).cpu.sp = s.cpu.sp := by cases p <;> rfl
@[simp] theorem setStackPair_cpu_pc (p : StackPair) (v : Word) (s : State) :
    (setStackPair p v s).cpu.pc = s.cpu.pc := by cases p <;> rfl
@[simp] theorem setStackPair_cpu_ime (p : StackPair) (v : Word) (s : State) :
    (setStackPair p v s).cpu.ime = s.cpu.ime := by cases p <;> rfl
@[simp] theorem setStackPair_cpu_eiPending (p : StackPair) (v : Word) (s : State) :
    (setStackPair p v s).cpu.eiPending = s.cpu.eiPending := by cases p <;> rfl
@[simp] theorem setStackPair_cpu_runState (p : StackPair) (v : Word) (s : State) :
    (setStackPair p v s).cpu.runState = s.cpu.runState := by cases p <;> rfl
@[simp] theorem setStackPair_cpu_fault (p : StackPair) (v : Word) (s : State) :
    (setStackPair p v s).cpu.fault = s.cpu.fault := by cases p <;> rfl

@[simp] theorem popSp_ifReg (s : State) : (popSp s).ifReg = s.ifReg := rfl
@[simp] theorem popSp_ie (s : State) : (popSp s).ie = s.ie := rfl
@[simp] theorem popSp_timer (s : State) : (popSp s).timer = s.timer := rfl
@[simp] theorem popSp_ppu (s : State) : (popSp s).ppu = s.ppu := rfl
@[simp] theorem popSp_joypad (s : State) : (popSp s).joypad = s.joypad := rfl
@[simp] theorem popSp_mbc (s : State) : (popSp s).mbc = s.mbc := rfl
@[simp] theorem popSp_arrays (s : State) : (popSp s).arrays = s.arrays := rfl
@[simp] theorem popSp_bootEnabled (s : State) : (popSp s).bootEnabled = s.bootEnabled := rfl
@[simp] theorem popSp_params (s : State) : (popSp s).params = s.params := rfl
@[simp] theorem popSp_cpu_a (s : State) : (popSp s).cpu.a = s.cpu.a := rfl
@[simp] theorem popSp_cpu_b (s : State) : (popSp s).cpu.b = s.cpu.b := rfl
@[simp] theorem popSp_cpu_c (s : State) : (popSp s).cpu.c = s.cpu.c := rfl
@[simp] theorem popSp_cpu_d (s : State) : (popSp s).cpu.d = s.cpu.d := rfl
@[simp] theorem popSp_cpu_e (s : State) : (popSp s).cpu.e = s.cpu.e := rfl
@[simp] theorem popSp_cpu_h (s : State) : (popSp s).cpu.h = s.cpu.h := rfl
@[simp] theorem popSp_cpu_l (s : State) : (popSp s).cpu.l = s.cpu.l := rfl
@[simp] theorem popSp_cpu_f (s : State) : (popSp s).cpu.f = s.cpu.f := rfl
@[simp] theorem popSp_cpu_sp (s : State) : (popSp s).cpu.sp = s.cpu.sp + 2#16 := rfl
@[simp] theorem popSp_cpu_pc (s : State) : (popSp s).cpu.pc = s.cpu.pc := rfl
@[simp] theorem popSp_cpu_ime (s : State) : (popSp s).cpu.ime = s.cpu.ime := rfl
@[simp] theorem popSp_cpu_eiPending (s : State) : (popSp s).cpu.eiPending = s.cpu.eiPending := rfl
@[simp] theorem popSp_cpu_runState (s : State) : (popSp s).cpu.runState = s.cpu.runState := rfl
@[simp] theorem popSp_cpu_fault (s : State) : (popSp s).cpu.fault = s.cpu.fault := rfl

@[simp] theorem applyPendingEi_ifReg (s : State) :
    (applyPendingEi s).ifReg = s.ifReg := by unfold applyPendingEi; split <;> simp_all
@[simp] theorem applyPendingEi_ie (s : State) :
    (applyPendingEi s).ie = s.ie := by unfold applyPendingEi; split <;> simp_all
@[simp] theorem applyPendingEi_timer (s : State) :
    (applyPendingEi s).timer = s.timer := by unfold applyPendingEi; split <;> simp_all
@[simp] theorem applyPendingEi_ppu (s : State) :
    (applyPendingEi s).ppu = s.ppu := by unfold applyPendingEi; split <;> simp_all
@[simp] theorem applyPendingEi_joypad (s : State) :
    (applyPendingEi s).joypad = s.joypad := by unfold applyPendingEi; split <;> simp_all
@[simp] theorem applyPendingEi_mbc (s : State) :
    (applyPendingEi s).mbc = s.mbc := by unfold applyPendingEi; split <;> simp_all
@[simp] theorem applyPendingEi_arrays (s : State) :
    (applyPendingEi s).arrays = s.arrays := by unfold applyPendingEi; split <;> simp_all
@[simp] theorem applyPendingEi_bootEnabled (s : State) :
    (applyPendingEi s).bootEnabled = s.bootEnabled := by unfold applyPendingEi; split <;> simp_all
@[simp] theorem applyPendingEi_params (s : State) :
    (applyPendingEi s).params = s.params := by unfold applyPendingEi; split <;> simp_all
@[simp] theorem applyPendingEi_cpu_a (s : State) :
    (applyPendingEi s).cpu.a = s.cpu.a := by unfold applyPendingEi; split <;> simp_all
@[simp] theorem applyPendingEi_cpu_b (s : State) :
    (applyPendingEi s).cpu.b = s.cpu.b := by unfold applyPendingEi; split <;> simp_all
@[simp] theorem applyPendingEi_cpu_c (s : State) :
    (applyPendingEi s).cpu.c = s.cpu.c := by unfold applyPendingEi; split <;> simp_all
@[simp] theorem applyPendingEi_cpu_d (s : State) :
    (applyPendingEi s).cpu.d = s.cpu.d := by unfold applyPendingEi; split <;> simp_all
@[simp] theorem applyPendingEi_cpu_e (s : State) :
    (applyPendingEi s).cpu.e = s.cpu.e := by unfold applyPendingEi; split <;> simp_all
@[simp] theorem applyPendingEi_cpu_h (s : State) :
    (applyPendingEi s).cpu.h = s.cpu.h := by unfold applyPendingEi; split <;> simp_all
@[simp] theorem applyPendingEi_cpu_l (s : State) :
    (applyPendingEi s).cpu.l = s.cpu.l := by unfold applyPendingEi; split <;> simp_all
@[simp] theorem applyPendingEi_cpu_f (s : State) :
    (applyPendingEi s).cpu.f = s.cpu.f := by unfold applyPendingEi; split <;> simp_all
@[simp] theorem applyPendingEi_cpu_sp (s : State) :
    (applyPendingEi s).cpu.sp = s.cpu.sp := by unfold applyPendingEi; split <;> simp_all
@[simp] theorem applyPendingEi_cpu_pc (s : State) :
    (applyPendingEi s).cpu.pc = s.cpu.pc := by unfold applyPendingEi; split <;> simp_all
@[simp] theorem applyPendingEi_cpu_ime (s : State) :
    (applyPendingEi s).cpu.ime = (s.cpu.ime || s.cpu.eiPending) := by unfold applyPendingEi; split <;> simp_all
@[simp] theorem applyPendingEi_cpu_eiPending (s : State) :
    (applyPendingEi s).cpu.eiPending = false := by unfold applyPendingEi; split <;> simp_all
@[simp] theorem applyPendingEi_cpu_runState (s : State) :
    (applyPendingEi s).cpu.runState = s.cpu.runState := by unfold applyPendingEi; split <;> simp_all
@[simp] theorem applyPendingEi_cpu_fault (s : State) :
    (applyPendingEi s).cpu.fault = s.cpu.fault := by unfold applyPendingEi; split <;> simp_all

@[simp] theorem wake_ifReg (s : State) : (wake s).ifReg = s.ifReg := by unfold wake; split <;> rfl
@[simp] theorem wake_ie (s : State) : (wake s).ie = s.ie := by unfold wake; split <;> rfl
@[simp] theorem wake_timer (s : State) : (wake s).timer = s.timer := by unfold wake; split <;> rfl
@[simp] theorem wake_ppu (s : State) : (wake s).ppu = s.ppu := by unfold wake; split <;> rfl
@[simp] theorem wake_joypad (s : State) : (wake s).joypad = s.joypad := by unfold wake; split <;> rfl
@[simp] theorem wake_mbc (s : State) : (wake s).mbc = s.mbc := by unfold wake; split <;> rfl
@[simp] theorem wake_arrays (s : State) : (wake s).arrays = s.arrays := by unfold wake; split <;> rfl
@[simp] theorem wake_bootEnabled (s : State) : (wake s).bootEnabled = s.bootEnabled := by unfold wake; split <;> rfl
@[simp] theorem wake_params (s : State) : (wake s).params = s.params := by unfold wake; split <;> rfl
@[simp] theorem wake_cpu_a (s : State) : (wake s).cpu.a = s.cpu.a := by unfold wake; split <;> rfl
@[simp] theorem wake_cpu_b (s : State) : (wake s).cpu.b = s.cpu.b := by unfold wake; split <;> rfl
@[simp] theorem wake_cpu_c (s : State) : (wake s).cpu.c = s.cpu.c := by unfold wake; split <;> rfl
@[simp] theorem wake_cpu_d (s : State) : (wake s).cpu.d = s.cpu.d := by unfold wake; split <;> rfl
@[simp] theorem wake_cpu_e (s : State) : (wake s).cpu.e = s.cpu.e := by unfold wake; split <;> rfl
@[simp] theorem wake_cpu_h (s : State) : (wake s).cpu.h = s.cpu.h := by unfold wake; split <;> rfl
@[simp] theorem wake_cpu_l (s : State) : (wake s).cpu.l = s.cpu.l := by unfold wake; split <;> rfl
@[simp] theorem wake_cpu_f (s : State) : (wake s).cpu.f = s.cpu.f := by unfold wake; split <;> rfl
@[simp] theorem wake_cpu_sp (s : State) : (wake s).cpu.sp = s.cpu.sp := by unfold wake; split <;> rfl
@[simp] theorem wake_cpu_pc (s : State) : (wake s).cpu.pc = s.cpu.pc := by unfold wake; split <;> rfl
@[simp] theorem wake_cpu_ime (s : State) : (wake s).cpu.ime = s.cpu.ime := by unfold wake; split <;> rfl
@[simp] theorem wake_cpu_eiPending (s : State) :
    (wake s).cpu.eiPending = s.cpu.eiPending := by unfold wake; split <;> rfl
@[simp] theorem wake_cpu_fault (s : State) : (wake s).cpu.fault = s.cpu.fault := by unfold wake; split <;> rfl

@[simp] theorem pastInstr_ifReg (s : State) : (pastInstr s).ifReg = s.ifReg := rfl
@[simp] theorem pastInstr_ie (s : State) : (pastInstr s).ie = s.ie := rfl
@[simp] theorem pastInstr_timer (s : State) : (pastInstr s).timer = s.timer := rfl
@[simp] theorem pastInstr_ppu (s : State) : (pastInstr s).ppu = s.ppu := rfl
@[simp] theorem pastInstr_joypad (s : State) : (pastInstr s).joypad = s.joypad := rfl
@[simp] theorem pastInstr_mbc (s : State) : (pastInstr s).mbc = s.mbc := rfl
@[simp] theorem pastInstr_arrays (s : State) : (pastInstr s).arrays = s.arrays := rfl
@[simp] theorem pastInstr_bootEnabled (s : State) : (pastInstr s).bootEnabled = s.bootEnabled := rfl
@[simp] theorem pastInstr_params (s : State) : (pastInstr s).params = s.params := rfl
@[simp] theorem pastInstr_cpu_a (s : State) : (pastInstr s).cpu.a = s.cpu.a := rfl
@[simp] theorem pastInstr_cpu_b (s : State) : (pastInstr s).cpu.b = s.cpu.b := rfl
@[simp] theorem pastInstr_cpu_c (s : State) : (pastInstr s).cpu.c = s.cpu.c := rfl
@[simp] theorem pastInstr_cpu_d (s : State) : (pastInstr s).cpu.d = s.cpu.d := rfl
@[simp] theorem pastInstr_cpu_e (s : State) : (pastInstr s).cpu.e = s.cpu.e := rfl
@[simp] theorem pastInstr_cpu_h (s : State) : (pastInstr s).cpu.h = s.cpu.h := rfl
@[simp] theorem pastInstr_cpu_l (s : State) : (pastInstr s).cpu.l = s.cpu.l := rfl
@[simp] theorem pastInstr_cpu_f (s : State) : (pastInstr s).cpu.f = s.cpu.f := rfl
@[simp] theorem pastInstr_cpu_sp (s : State) : (pastInstr s).cpu.sp = s.cpu.sp := rfl
@[simp] theorem pastInstr_cpu_pc (s : State) :
    (pastInstr s).cpu.pc = s.cpu.pc + BitVec.ofNat 16 (fetchLength s) := rfl
@[simp] theorem pastInstr_cpu_ime (s : State) : (pastInstr s).cpu.ime = s.cpu.ime := rfl
@[simp] theorem pastInstr_cpu_eiPending (s : State) : (pastInstr s).cpu.eiPending = s.cpu.eiPending := rfl
@[simp] theorem pastInstr_cpu_runState (s : State) : (pastInstr s).cpu.runState = s.cpu.runState := rfl
@[simp] theorem pastInstr_cpu_fault (s : State) : (pastInstr s).cpu.fault = s.cpu.fault := rfl

@[simp] theorem requestIrq_cpu (k : Nat) (s : State) : (requestIrq k s).cpu = s.cpu := rfl
@[simp] theorem requestIrq_ie (k : Nat) (s : State) : (requestIrq k s).ie = s.ie := rfl
@[simp] theorem requestIrq_timer (k : Nat) (s : State) : (requestIrq k s).timer = s.timer := rfl
@[simp] theorem requestIrq_ppu (k : Nat) (s : State) : (requestIrq k s).ppu = s.ppu := rfl
@[simp] theorem requestIrq_joypad (k : Nat) (s : State) : (requestIrq k s).joypad = s.joypad := rfl
@[simp] theorem requestIrq_mbc (k : Nat) (s : State) : (requestIrq k s).mbc = s.mbc := rfl
@[simp] theorem requestIrq_arrays (k : Nat) (s : State) : (requestIrq k s).arrays = s.arrays := rfl
@[simp] theorem requestIrq_bootEnabled (k : Nat) (s : State) : (requestIrq k s).bootEnabled = s.bootEnabled := rfl
@[simp] theorem requestIrq_params (k : Nat) (s : State) : (requestIrq k s).params = s.params := rfl
@[simp] theorem requestIrq_ifReg (k : Nat) (s : State) : (requestIrq k s).ifReg = s.ifReg ||| (1#5 <<< k) := rfl

@[simp] theorem setMode_cpu (m : PpuMode) (s : State) : (setMode m s).cpu = s.cpu := rfl
@[simp] theorem setMode_ifReg (m : PpuMode) (s : State) : (setMode m s).ifReg = s.ifReg := rfl
@[simp] theorem setMode_ie (m : PpuMode) (s : State) : (setMode m s).ie = s.ie := rfl
@[simp] theorem setMode_timer (m : PpuMode) (s : State) : (setMode m s).timer = s.timer := rfl
@[simp] theorem setMode_joypad (m : PpuMode) (s : State) : (setMode m s).joypad = s.joypad := rfl
@[simp] theorem setMode_mbc (m : PpuMode) (s : State) : (setMode m s).mbc = s.mbc := rfl
@[simp] theorem setMode_arrays (m : PpuMode) (s : State) : (setMode m s).arrays = s.arrays := rfl
@[simp] theorem setMode_bootEnabled (m : PpuMode) (s : State) : (setMode m s).bootEnabled = s.bootEnabled := rfl
@[simp] theorem setMode_params (m : PpuMode) (s : State) : (setMode m s).params = s.params := rfl
@[simp] theorem setMode_ppu_lcdc (m : PpuMode) (s : State) : (setMode m s).ppu.lcdc = s.ppu.lcdc := rfl
@[simp] theorem setMode_ppu_statSel (m : PpuMode) (s : State) : (setMode m s).ppu.statSel = s.ppu.statSel := rfl
@[simp] theorem setMode_ppu_scy (m : PpuMode) (s : State) : (setMode m s).ppu.scy = s.ppu.scy := rfl
@[simp] theorem setMode_ppu_scx (m : PpuMode) (s : State) : (setMode m s).ppu.scx = s.ppu.scx := rfl
@[simp] theorem setMode_ppu_ly (m : PpuMode) (s : State) : (setMode m s).ppu.ly = s.ppu.ly := rfl
@[simp] theorem setMode_ppu_bgp (m : PpuMode) (s : State) : (setMode m s).ppu.bgp = s.ppu.bgp := rfl
@[simp] theorem setMode_ppu_mode (m : PpuMode) (s : State) : (setMode m s).ppu.mode = m := rfl
@[simp] theorem setMode_ppu_acc (m : PpuMode) (s : State) : (setMode m s).ppu.acc = s.ppu.acc := rfl
@[simp] theorem setMode_ppu_fb (m : PpuMode) (s : State) : (setMode m s).ppu.fb = s.ppu.fb := rfl

@[simp] theorem setLy_cpu (v : Byte) (s : State) : (setLy v s).cpu = s.cpu := rfl
@[simp] theorem setLy_ifReg (v : Byte) (s : State) : (setLy v s).ifReg = s.ifReg := rfl
@[simp] theorem setLy_ie (v : Byte) (s : State) : (setLy v s).ie = s.ie := rfl
@[simp] theorem setLy_timer (v : Byte) (s : State) : (setLy v s).timer = s.timer := rfl
@[simp] theorem setLy_joypad (v : Byte) (s : State) : (setLy v s).joypad = s.joypad := rfl
@[simp] theorem setLy_mbc (v : Byte) (s : State) : (setLy v s).mbc = s.mbc := rfl
@[simp] theorem setLy_arrays (v : Byte) (s : State) : (setLy v s).arrays = s.arrays := rfl
@[simp] theorem setLy_bootEnabled (v : Byte) (s : State) : (setLy v s).bootEnabled = s.bootEnabled := rfl
@[simp] theorem setLy_params (v : Byte) (s : State) : (setLy v s).params = s.params := rfl
@[simp] theorem setLy_ppu_lcdc (v : Byte) (s : State) : (setLy v s).ppu.lcdc = s.ppu.lcdc := rfl
@[simp] theorem setLy_ppu_statSel (v : Byte) (s : State) : (setLy v s).ppu.statSel = s.ppu.statSel := rfl
@[simp] theorem setLy_ppu_scy (v : Byte) (s : State) : (setLy v s).ppu.scy = s.ppu.scy := rfl
@[simp] theorem setLy_ppu_scx (v : Byte) (s : State) : (setLy v s).ppu.scx = s.ppu.scx := rfl
@[simp] theorem setLy_ppu_ly (v : Byte) (s : State) : (setLy v s).ppu.ly = v := rfl
@[simp] theorem setLy_ppu_bgp (v : Byte) (s : State) : (setLy v s).ppu.bgp = s.ppu.bgp := rfl
@[simp] theorem setLy_ppu_mode (v : Byte) (s : State) : (setLy v s).ppu.mode = s.ppu.mode := rfl
@[simp] theorem setLy_ppu_acc (v : Byte) (s : State) : (setLy v s).ppu.acc = s.ppu.acc := rfl
@[simp] theorem setLy_ppu_fb (v : Byte) (s : State) : (setLy v s).ppu.fb = s.ppu.fb := rfl

@[simp] theorem setPpuAcc_cpu (v : Nat) (s : State) : (setPpuAcc v s).cpu = s.cpu := rfl
@[simp] theorem setPpuAcc_ifReg (v : Nat) (s : State) : (setPpuAcc v s).ifReg = s.ifReg := rfl
@[simp] theorem setPpuAcc_ie (v : Nat) (s : State) : (setPpuAcc v s).ie = s.ie := rfl
@[simp] theorem setPpuAcc_timer (v : Nat) (s : State) : (setPpuAcc v s).timer = s.timer := rfl
@[simp] theorem setPpuAcc_joypad (v : Nat) (s : State) : (setPpuAcc v s).joypad = s.joypad := rfl
@[simp] theorem setPpuAcc_mbc (v : Nat) (s : State) : (setPpuAcc v s).mbc = s.mbc := rfl
@[simp] theorem setPpuAcc_arrays (v : Nat) (s : State) : (setPpuAcc v s).arrays = s.arrays := rfl
@[simp] theorem setPpuAcc_bootEnabled (v : Nat) (s : State) : (setPpuAcc v s).bootEnabled = s.bootEnabled := rfl
@[simp] theorem setPpuAcc_params (v : Nat) (s : State) : (setPpuAcc v s).params = s.params := rfl
@[simp] theorem setPpuAcc_ppu_lcdc (v : Nat) (s : State) : (setPpuAcc v s).ppu.lcdc = s.ppu.lcdc := rfl
@[simp] theorem setPpuAcc_ppu_statSel (v : Nat) (s : State) : (setPpuAcc v s).ppu.statSel = s.ppu.statSel := rfl
@[simp] theorem setPpuAcc_ppu_scy (v : Nat) (s : State) : (setPpuAcc v s).ppu.scy = s.ppu.scy := rfl
@[simp] theorem setPpuAcc_ppu_scx (v : Nat) (s : State) : (setPpuAcc v s).ppu.scx = s.ppu.scx := rfl
@[simp] theorem setPpuAcc_ppu_ly (v : Nat) (s : State) : (setPpuAcc v s).ppu.ly = s.ppu.ly := rfl
@[simp] theorem setPpuAcc_ppu_bgp (v : Nat) (s : State) : (setPpuAcc v s).ppu.bgp = s.ppu.bgp := rfl
@[simp] theorem setPpuAcc_ppu_mode (v : Nat) (s : State) : (setPpuAcc v s).ppu.mode = s.ppu.mode := rfl
@[simp] theorem setPpuAcc_ppu_acc (v : Nat) (s : State) : (setPpuAcc v s).ppu.acc = v := rfl
@[simp] theorem setPpuAcc_ppu_fb (v : Nat) (s : State) : (setPpuAcc v s).ppu.fb = s.ppu.fb := rfl

@[simp] theorem renderScanline_cpu (line : Nat) (s : State) : (renderScanline line s).cpu = s.cpu := by
  simp only [renderScanline]
@[simp] theorem renderScanline_ifReg (line : Nat) (s : State) : (renderScanline line s).ifReg = s.ifReg := by
  simp only [renderScanline]
@[simp] theorem renderScanline_ie (line : Nat) (s : State) : (renderScanline line s).ie = s.ie := by
  simp only [renderScanline]
@[simp] theorem renderScanline_timer (line : Nat) (s : State) : (renderScanline line s).timer = s.timer := by
  simp only [renderScanline]
@[simp] theorem renderScanline_joypad (line : Nat) (s : State) : (renderScanline line s).joypad = s.joypad := by
  simp only [renderScanline]
@[simp] theorem renderScanline_mbc (line : Nat) (s : State) : (renderScanline line s).mbc = s.mbc := by
  simp only [renderScanline]
@[simp] theorem renderScanline_arrays (line : Nat) (s : State) : (renderScanline line s).arrays = s.arrays := by
  simp only [renderScanline]
@[simp] theorem renderScanline_bootEnabled (line : Nat) (s : State) :
    (renderScanline line s).bootEnabled = s.bootEnabled := by
  simp only [renderScanline]
@[simp] theorem renderScanline_params (line : Nat) (s : State) : (renderScanline line s).params = s.params := by
  simp only [renderScanline]
@[simp] theorem renderScanline_ppu_lcdc (line : Nat) (s : State) : (renderScanline line s).ppu.lcdc = s.ppu.lcdc := by
  simp only [renderScanline]
@[simp] theorem renderScanline_ppu_statSel (line : Nat) (s : State) :
    (renderScanline line s).ppu.statSel = s.ppu.statSel := by
  simp only [renderScanline]
@[simp] theorem renderScanline_ppu_scy (line : Nat) (s : State) : (renderScanline line s).ppu.scy = s.ppu.scy := by
  simp only [renderScanline]
@[simp] theorem renderScanline_ppu_scx (line : Nat) (s : State) : (renderScanline line s).ppu.scx = s.ppu.scx := by
  simp only [renderScanline]
@[simp] theorem renderScanline_ppu_ly (line : Nat) (s : State) : (renderScanline line s).ppu.ly = s.ppu.ly := by
  simp only [renderScanline]
@[simp] theorem renderScanline_ppu_bgp (line : Nat) (s : State) : (renderScanline line s).ppu.bgp = s.ppu.bgp := by
  simp only [renderScanline]
@[simp] theorem renderScanline_ppu_mode (line : Nat) (s : State) : (renderScanline line s).ppu.mode = s.ppu.mode := by
  simp only [renderScanline]
@[simp] theorem renderScanline_ppu_acc (line : Nat) (s : State) : (renderScanline line s).ppu.acc = s.ppu.acc := by
  simp only [renderScanline]
@[simp] theorem renderScanline_ppu_fb (line : Nat) (s : State) :
    (renderScanline line s).ppu.fb = renderColumns s.ppu s.arrays.vram line 256 0 s.ppu.fb := by
  simp only [renderScanline]

@[simp] theorem divTick_cpu (c : Nat) (s : State) : (divTick c s).cpu = s.cpu := rfl
@[simp] theorem divTick_ifReg (c : Nat) (s : State) : (divTick c s).ifReg = s.ifReg := rfl
@[simp] theorem divTick_ie (c : Nat) (s : State) : (divTick c s).ie = s.ie := rfl
@[simp] theorem divTick_ppu (c : Nat) (s : State) : (divTick c s).ppu = s.ppu := rfl
@[simp] theorem divTick_joypad (c : Nat) (s : State) : (divTick c s).joypad = s.joypad := rfl
@[simp] theorem divTick_mbc (c : Nat) (s : State) : (divTick c s).mbc = s.mbc := rfl
@[simp] theorem divTick_arrays (c : Nat) (s : State) : (divTick c s).arrays = s.arrays := rfl
@[simp] theorem divTick_bootEnabled (c : Nat) (s : State) : (divTick c s).bootEnabled = s.bootEnabled := rfl
@[simp] theorem divTick_params (c : Nat) (s : State) : (divTick c s).params = s.params := rfl
@[simp] theorem divTick_timer_tima (c : Nat) (s : State) : (divTick c s).timer.tima = s.timer.tima := rfl
@[simp] theorem divTick_timer_tma (c : Nat) (s : State) : (divTick c s).timer.tma = s.timer.tma := rfl
@[simp] theorem divTick_timer_tac (c : Nat) (s : State) : (divTick c s).timer.tac = s.timer.tac := rfl
@[simp] theorem divTick_timer_timaAcc (c : Nat) (s : State) : (divTick c s).timer.timaAcc = s.timer.timaAcc := rfl
@[simp] theorem divTick_timer_divAcc (c : Nat) (s : State) :
    (divTick c s).timer.divAcc = (s.timer.divAcc + c) % 256 := rfl

@[simp] theorem timaIncrement_cpu (s : State) :
    (timaIncrement s).cpu = s.cpu := by unfold timaIncrement; split <;> rfl
@[simp] theorem timaIncrement_ie (s : State) : (timaIncrement s).ie = s.ie := by unfold timaIncrement; split <;> rfl
@[simp] theorem timaIncrement_ppu (s : State) :
    (timaIncrement s).ppu = s.ppu := by unfold timaIncrement; split <;> rfl
@[simp] theorem timaIncrement_joypad (s : State) :
    (timaIncrement s).joypad = s.joypad := by unfold timaIncrement; split <;> rfl
@[simp] theorem timaIncrement_mbc (s : State) :
    (timaIncrement s).mbc = s.mbc := by unfold timaIncrement; split <;> rfl
@[simp] theorem timaIncrement_arrays (s : State) :
    (timaIncrement s).arrays = s.arrays := by unfold timaIncrement; split <;> rfl
@[simp] theorem timaIncrement_bootEnabled (s : State) :
    (timaIncrement s).bootEnabled = s.bootEnabled := by unfold timaIncrement; split <;> rfl
@[simp] theorem timaIncrement_params (s : State) :
    (timaIncrement s).params = s.params := by unfold timaIncrement; split <;> rfl
@[simp] theorem timaIncrement_timer_div (s : State) :
    (timaIncrement s).timer.div = s.timer.div := by unfold timaIncrement; split <;> rfl
@[simp] theorem timaIncrement_timer_tma (s : State) :
    (timaIncrement s).timer.tma = s.timer.tma := by unfold timaIncrement; split <;> rfl
@[simp] theorem timaIncrement_timer_tac (s : State) :
    (timaIncrement s).timer.tac = s.timer.tac := by unfold timaIncrement; split <;> rfl
@[simp] theorem timaIncrement_timer_timaAcc (s : State) :
    (timaIncrement s).timer.timaAcc = s.timer.timaAcc := by unfold timaIncrement; split <;> rfl
@[simp] theorem timaIncrement_timer_divAcc (s : State) :
    (timaIncrement s).timer.divAcc = s.timer.divAcc := by unfold timaIncrement; split <;> rfl

@[simp] theorem ppuTransition_cpu (s : State) : (ppuTransition s).cpu = s.cpu := by
  unfold ppuTransition; split <;> (try dsimp only) <;> (repeat' split) <;> simp
@[simp] theorem ppuTransition_ie (s : State) : (ppuTransition s).ie = s.ie := by
  unfold ppuTransition; split <;> (try dsimp only) <;> (repeat' split) <;> simp
@[simp] theorem ppuTransition_timer (s : State) : (ppuTransition s).timer = s.timer := by
  unfold ppuTransition; split <;> (try dsimp only) <;> (repeat' split) <;> simp
@[simp] theorem ppuTransition_joypad (s : State) : (ppuTransition s).joypad = s.joypad := by
  unfold ppuTransition; split <;> (try dsimp only) <;> (repeat' split) <;> simp
@[simp] theorem ppuTransition_mbc (s : State) : (ppuTransition s).mbc = s.mbc := by
  unfold ppuTransition; split <;> (try dsimp only) <;> (repeat' split) <;> simp
@[simp] theorem ppuTransition_arrays (s : State) : (ppuTransition s).arrays = s.arrays := by
  unfold ppuTransition; split <;> (try dsimp only) <;> (repeat' split) <;> simp
@[simp] theorem ppuTransition_bootEnabled (s : State) : (ppuTransition s).bootEnabled = s.bootEnabled := by
  unfold ppuTransition; split <;> (try dsimp only) <;> (repeat' split) <;> simp
@[simp] theorem ppuTransition_params (s : State) : (ppuTransition s).params = s.params := by
  unfold ppuTransition; split <;> (try dsimp only) <;> (repeat' split) <;> simp

@[simp] theorem press_cpu (btn : Button) (s : State) :
    (press btn s).cpu = s.cpu := by unfold press; dsimp only; split <;> rfl
@[simp] theorem press_ie (btn : Button) (s : State) :
    (press btn s).ie = s.ie := by unfold press; dsimp only; split <;> rfl
@[simp] theorem press_timer (btn : Button) (s : State) :
    (press btn s).timer = s.timer := by unfold press; dsimp only; split <;> rfl
@[simp] theorem press_ppu (btn : Button) (s : State) :
    (press btn s).ppu = s.ppu := by unfold press; dsimp only; split <;> rfl
@[simp] theorem press_mbc (btn : Button) (s : State) :
    (press btn s).mbc = s.mbc := by unfold press; dsimp only; split <;> rfl
@[simp] theorem press_arrays (btn : Button) (s : State) :
    (press btn s).arrays = s.arrays := by unfold press; dsimp only; split <;> rfl
@[simp] theorem press_bootEnabled (btn : Button) (s : State) :
    (press btn s).bootEnabled = s.bootEnabled := by unfold press; dsimp only; split <;> rfl
@[simp] theorem press_params (btn : Button) (s : State) :
    (press btn s).params = s.params := by unfold press; dsimp only; split <;> rfl

@[simp] theorem release_cpu (btn : Button) (s : State) : (release btn s).cpu = s.cpu := rfl
@[simp] theorem release_ifReg (btn : Button) (s : State) : (release btn s).ifReg = s.ifReg := rfl
@[simp] theorem release_ie (btn : Button) (s : State) : (release btn s).ie = s.ie := rfl
@[simp] theorem release_timer (btn : Button) (s : State) : (release btn s).timer = s.timer := rfl
@[simp] theorem release_ppu (btn : Button) (s : State) : (release btn s).ppu = s.ppu := rfl
@[simp] theorem release_mbc (btn : Button) (s : State) : (release btn s).mbc = s.mbc := rfl
@[simp] theorem release_arrays (btn : Button) (s : State) : (release btn s).arrays = s.arrays := rfl
@[simp] theorem release_bootEnabled (btn : Button) (s : State) : (release btn s).bootEnabled = s.bootEnabled := rfl
@[simp] theorem release_params (btn : Button) (s : State) : (release btn s).params = s.params := rfl

end Sys2Proof.Machine
end

