-- ==== Sys2Proof/Laws/Mmu.lean ====
section
/-! SUPPORT. The laws of the memory map: where an address leads, what a store does to each field, that reads do not look
at the processor, and that every memory operation keeps the canonical form. -/

namespace Sys2Proof.Machine

/-! ### Where an address leads -/

/-- One test of a chain of tests: a property of either branch is a property of the whole. -/
theorem ite_elim {α : Type} {P : α → Prop} {c : Prop} [Decidable c] {x y : α} (hx : c → P x) (hy : ¬ c → P y) :
    P (if c then x else y) := by
  split
  · exact hx ‹_›
  · exact hy ‹_›

/-- Everything the I/O page's map can answer. Proofs use this and not `split`, which is slow on a chain this long. -/
theorem ioPlace_elim {P : Place → Prop} (n : Nat)
    (p1 : n = 0xFF00 → P .p1)
    (div : n = 0xFF04 → P .div)
    (tima : n = 0xFF05 → P .tima)
    (tma : n = 0xFF06 → P .tma)
    (tac : n = 0xFF07 → P .tac)
    (ifReg : n = 0xFF0F → P .ifReg)
    (lcdc : n = 0xFF40 → P .lcdc)
    (stat : n = 0xFF41 → P .stat)
    (scy : n = 0xFF42 → P .scy)
    (scx : n = 0xFF43 → P .scx)
    (ly : n = 0xFF44 → P .ly)
    (bgp : n = 0xFF47 → P .bgp)
    (boot : n = 0xFF50 → P .boot)
    (unmapped : n ≠ 0xFF00 → n ≠ 0xFF04 → n ≠ 0xFF05 → n ≠ 0xFF06 → n ≠ 0xFF07 → n ≠ 0xFF0F → n ≠ 0xFF40 →
      n ≠ 0xFF41 → n ≠ 0xFF42 → n ≠ 0xFF43 → n ≠ 0xFF44 → n ≠ 0xFF47 → n ≠ 0xFF50 → P .unmapped) :
    P (ioPlace n) := by
  refine ite_elim p1 fun h0 => ?_
  refine ite_elim div fun h1 => ?_
  refine ite_elim tima fun h2 => ?_
  refine ite_elim tma fun h3 => ?_
  refine ite_elim tac fun h4 => ?_
  refine ite_elim ifReg fun h5 => ?_
  refine ite_elim lcdc fun h6 => ?_
  refine ite_elim stat fun h7 => ?_
  refine ite_elim scy fun h8 => ?_
  refine ite_elim scx fun h9 => ?_
  refine ite_elim ly fun h10 => ?_
  refine ite_elim bgp fun h11 => ?_
  exact ite_elim boot fun h12 => unmapped h0 h1 h2 h3 h4 h5 h6 h7 h8 h9 h10 h11 h12

/-- Everything the address map can answer. -/
theorem route_elim {P : Place → Prop} (a : Word)
    (rom : a.toNat < 0x8000 → P (.rom a.toNat))
    (vram : 0x8000 ≤ a.toNat → a.toNat < 0xA000 → P (.vram (a.toNat - 0x8000)))
    (extRam : 0xA000 ≤ a.toNat → a.toNat < 0xC000 → P (.extRam (a.toNat - 0xA000)))
    (wram : 0xC000 ≤ a.toNat → a.toNat < 0xFE00 → P (.wram (a.toNat % 0x2000)))
    (oam : 0xFE00 ≤ a.toNat → a.toNat < 0xFEA0 → P (.oam (a.toNat - 0xFE00)))
    (unused : 0xFEA0 ≤ a.toNat → a.toNat < 0xFF00 → P .unused)
    (io : 0xFF00 ≤ a.toNat → a.toNat < 0xFF80 → P (ioPlace a.toNat))
    (hram : 0xFF80 ≤ a.toNat → a.toNat < 0xFFFF → P (.hram (a.toNat - 0xFF80)))
    (ie : a.toNat = 0xFFFF → P .ie) : P (route a) := by
  refine ite_elim rom fun h0 => ?_
  refine ite_elim (vram (by omega)) fun h1 => ?_
  refine ite_elim (extRam (by omega)) fun h2 => ?_
  refine ite_elim (wram (by omega)) fun h3 => ?_
  refine ite_elim (oam (by omega)) fun h4 => ?_
  refine ite_elim (unused (by omega)) fun h5 => ?_
  refine ite_elim (io (by omega)) fun h6 => ?_
  exact ite_elim (hram (by omega)) fun h7 => ie (by have := a.isLt; omega)

/-- What it means that an address leads to a place. -/
def Place.Is (a : Word) : Place → Prop
  | .rom k => k = a.toNat ∧ a.toNat < 0x8000
  | .vram k => k = a.toNat - 0x8000 ∧ 0x8000 ≤ a.toNat ∧ a.toNat < 0xA000
  | .extRam k => k = a.toNat - 0xA000 ∧ 0xA000 ≤ a.toNat ∧ a.toNat < 0xC000
  | .wram k => k = a.toNat % 0x2000 ∧ 0xC000 ≤ a.toNat ∧ a.toNat < 0xFE00
  | .oam k => k = a.toNat - 0xFE00 ∧ 0xFE00 ≤ a.toNat ∧ a.toNat < 0xFEA0
  | .unused => 0xFEA0 ≤ a.toNat ∧ a.toNat < 0xFF00
  | .hram k => k = a.toNat - 0xFF80 ∧ 0xFF80 ≤ a.toNat ∧ a.toNat < 0xFFFF
  | .ie => a.toNat = 0xFFFF
  | .unmapped => 0xFF00 ≤ a.toNat ∧ a.toNat < 0xFF80
  | .p1 => a.toNat = 0xFF00
  | .div => a.toNat = 0xFF04
  | .tima => a.toNat = 0xFF05
  | .tma => a.toNat = 0xFF06
  | .tac => a.toNat = 0xFF07
  | .ifReg => a.toNat = 0xFF0F
  | .lcdc => a.toNat = 0xFF40
  | .stat => a.toNat = 0xFF41
  | .scy => a.toNat = 0xFF42
  | .scx => a.toNat = 0xFF43
  | .ly => a.toNat = 0xFF44
  | .bgp => a.toNat = 0xFF47
  | .boot => a.toNat = 0xFF50

theorem route_is (a : Word) : (route a).Is a := by
  refine route_elim a ?_ ?_ ?_ ?_ ?_ ?_ ?_ ?_ ?_
  all_goals intros
  case refine_7 =>
    refine ioPlace_elim (P := fun p => p.Is a) a.toNat ?_ ?_ ?_ ?_ ?_ ?_ ?_ ?_ ?_ ?_ ?_ ?_ ?_ ?_
    all_goals intros; simp only [Place.Is]; first | assumption | exact ⟨‹_›, ‹_›⟩
  all_goals
    simp only [Place.Is, true_and]
    first | assumption | exact ⟨‹_›, ‹_›⟩

/-- An address leads to a place exactly where the map says so. -/
theorem route_eq {a : Word} {p : Place} (h : route a = p) : p.Is a := h ▸ route_is a

/-! ### What a store does to each field -/

/-- A store computed on a state whose processor is another one is the store, with that processor. -/
theorem write8_cpu_with (a : Word) (v : Byte) (s : State) (c : Cpu) :
    write8 a v { s with cpu := c } = { write8 a v s with cpu := c } := by
  unfold write8
  cases route a <;> simp only [writePlace, mbcWriteControl, mbcWriteRam, extramIndex, ramPresent]
  · rcases s.mbc.kind <;> simp only <;> (repeat' split) <;> rfl
  · rcases s.mbc.kind <;> simp only <;> (repeat' split) <;> simp_all

/-- Everything a store leaves alone, whatever the address. -/
theorem write8_keeps (a : Word) (v : Byte) (s : State) :
    (write8 a v s).cpu = s.cpu ∧ (write8 a v s).params = s.params ∧ (write8 a v s).mbc.kind = s.mbc.kind ∧
    (write8 a v s).arrays.rom = s.arrays.rom ∧ (write8 a v s).arrays.romLen = s.arrays.romLen ∧
    (write8 a v s).arrays.bootrom = s.arrays.bootrom ∧ (write8 a v s).ppu.fb = s.ppu.fb ∧
    (write8 a v s).ppu.mode = s.ppu.mode ∧ (write8 a v s).ppu.acc = s.ppu.acc ∧
    (write8 a v s).ppu.ly = s.ppu.ly ∧ (write8 a v s).joypad.dirNibble = s.joypad.dirNibble ∧
    (write8 a v s).joypad.actNibble = s.joypad.actNibble := by
  unfold write8
  cases route a <;> simp only [writePlace, mbcWriteControl, mbcWriteRam, and_self]
  · rcases hk : s.mbc.kind <;> simp only <;> (repeat' split) <;> simp [hk]
  · split <;> simp

@[simp] theorem write8_cpu (a : Word) (v : Byte) (s : State) : (write8 a v s).cpu = s.cpu := (write8_keeps a v s).1
@[simp] theorem write8_params (a : Word) (v : Byte) (s : State) : (write8 a v s).params = s.params :=
  (write8_keeps a v s).2.1
@[simp] theorem write8_mbc_kind (a : Word) (v : Byte) (s : State) : (write8 a v s).mbc.kind = s.mbc.kind :=
  (write8_keeps a v s).2.2.1
@[simp] theorem write8_arrays_rom (a : Word) (v : Byte) (s : State) : (write8 a v s).arrays.rom = s.arrays.rom :=
  (write8_keeps a v s).2.2.2.1
@[simp] theorem write8_arrays_romLen (a : Word) (v : Byte) (s : State) :
    (write8 a v s).arrays.romLen = s.arrays.romLen := (write8_keeps a v s).2.2.2.2.1
@[simp] theorem write8_arrays_bootrom (a : Word) (v : Byte) (s : State) :
    (write8 a v s).arrays.bootrom = s.arrays.bootrom := (write8_keeps a v s).2.2.2.2.2.1
@[simp] theorem write8_ppu_fb (a : Word) (v : Byte) (s : State) : (write8 a v s).ppu.fb = s.ppu.fb :=
  (write8_keeps a v s).2.2.2.2.2.2.1
@[simp] theorem write8_ppu_mode (a : Word) (v : Byte) (s : State) : (write8 a v s).ppu.mode = s.ppu.mode :=
  (write8_keeps a v s).2.2.2.2.2.2.2.1
@[simp] theorem write8_ppu_acc (a : Word) (v : Byte) (s : State) : (write8 a v s).ppu.acc = s.ppu.acc :=
  (write8_keeps a v s).2.2.2.2.2.2.2.2.1
@[simp] theorem write8_ppu_ly (a : Word) (v : Byte) (s : State) : (write8 a v s).ppu.ly = s.ppu.ly :=
  (write8_keeps a v s).2.2.2.2.2.2.2.2.2.1
@[simp] theorem write8_joypad_dirNibble (a : Word) (v : Byte) (s : State) :
    (write8 a v s).joypad.dirNibble = s.joypad.dirNibble := (write8_keeps a v s).2.2.2.2.2.2.2.2.2.2.1
@[simp] theorem write8_joypad_actNibble (a : Word) (v : Byte) (s : State) :
    (write8 a v s).joypad.actNibble = s.joypad.actNibble := (write8_keeps a v s).2.2.2.2.2.2.2.2.2.2.2

/-- No store maps the boot ROM again. -/
theorem write8_bootEnabled (a : Word) (v : Byte) (s : State) (h : (write8 a v s).bootEnabled = true) :
    s.bootEnabled = true := by
  revert h
  unfold write8
  cases route a <;> simp only [writePlace, mbcWriteControl, mbcWriteRam, imp_self, Bool.false_eq_true, false_imp_iff]
  · cases s.mbc.kind <;> simp only <;> (repeat' split) <;> simp
  · split <;> simp

/-! ### Reads do not look at the processor -/

@[simp] theorem read8_cpu_with (a : Word) (s : State) (c : Cpu) : read8 a { s with cpu := c } = read8 a s := by
  unfold read8
  cases route a <;> rfl

/-- States that differ in the processor only read the same. -/
theorem read8_congr {s t : State} (h : { t with cpu := s.cpu } = s) (a : Word) : read8 a t = read8 a s := by
  have := read8_cpu_with a t s.cpu
  rw [h] at this
  exact this.symm

theorem read16_congr {s t : State} (h : { t with cpu := s.cpu } = s) (a : Word) : read16 a t = read16 a s := by
  simp only [read16, read8_congr h]

@[simp] theorem read8_setReg (a : Word) (r : Reg8) (v : Byte) (s : State) : read8 a (setReg r v s) = read8 a s :=
  read8_congr (by cases r <;> rfl) a
@[simp] theorem read8_setFlags (a : Word) (f : Flags) (s : State) : read8 a (setFlags f s) = read8 a s :=
  read8_congr rfl a
@[simp] theorem read8_setPc (a v : Word) (s : State) : read8 a (setPc v s) = read8 a s := read8_congr rfl a
@[simp] theorem read8_setSp (a v : Word) (s : State) : read8 a (setSp v s) = read8 a s := read8_congr rfl a
@[simp] theorem read8_setIme (a : Word) (v : Bool) (s : State) : read8 a (setIme v s) = read8 a s := read8_congr rfl a
@[simp] theorem read8_setRunState (a : Word) (v : RunState) (s : State) : read8 a (setRunState v s) = read8 a s :=
  read8_congr rfl a
@[simp] theorem read8_setEiPending (a : Word) (s : State) : read8 a (setEiPending s) = read8 a s := read8_congr rfl a
@[simp] theorem read8_raiseFault (a : Word) (f : Fault) (s : State) : read8 a (raiseFault f s) = read8 a s :=
  read8_congr rfl a
@[simp] theorem read8_setPair (a : Word) (p : Pair) (v : Word) (s : State) : read8 a (setPair p v s) = read8 a s :=
  read8_congr (by cases p <;> rfl) a
@[simp] theorem read8_setStackPair (a : Word) (p : StackPair) (v : Word) (s : State) :
    read8 a (setStackPair p v s) = read8 a s := read8_congr (by cases p <;> rfl) a
@[simp] theorem read8_popSp (a : Word) (s : State) : read8 a (popSp s) = read8 a s := read8_congr rfl a
@[simp] theorem read8_applyPendingEi (a : Word) (s : State) : read8 a (applyPendingEi s) = read8 a s :=
  read8_congr (by unfold applyPendingEi; split <;> rfl) a
@[simp] theorem read8_pastInstr (a : Word) (s : State) : read8 a (pastInstr s) = read8 a s := read8_congr rfl a

/-! ### The canonical form -/

/-- Outside the processor nothing is canonical or not: states that differ there only are canonical together. -/
theorem MemoryCanonical_congr {s t : State} (ha : t.arrays = s.arrays) (hf : t.ppu.fb = s.ppu.fb)
    (h : s.MemoryCanonical) : t.MemoryCanonical := by
  unfold State.MemoryCanonical at *
  rw [ha, hf]; exact h

/-- A place of `extram` is inside it. -/
theorem extramIndex_lt {o k : Nat} {s : State} (ho : o < 0x2000) (h : extramIndex o s = some k) : k < 0x8000 := by
  have hb : ramBank s.mbc ≤ 3 := by
    unfold ramBank
    split
    · have := s.mbc.bankHi.isLt; omega
    · omega
  unfold extramIndex at h
  split at h
  · simp at h
  all_goals
    split at h
    · simp at h; omega
    · simp at h

/-- A store keeps the canonical form. -/
theorem write8_canonical (a : Word) (v : Byte) (s : State) (h : s.MemoryCanonical) :
    (write8 a v s).MemoryCanonical := by
  unfold write8
  obtain ⟨h1, h2, h3, h4, h5, h6, h7, h8⟩ := h
  cases hr : route a <;> simp only [writePlace]
  case rom k =>
    refine MemoryCanonical_congr (s := s) ?_ ?_ ⟨h1, h2, h3, h4, h5, h6, h7, h8⟩ <;>
      (unfold mbcWriteControl; cases s.mbc.kind <;> simp only <;> (repeat' split) <;> rfl)
  case vram o => exact ⟨h1, h2, Memory.wf_write _ _ _ (by obtain ⟨h, _⟩ := route_eq hr; omega) h3, h4, h5, h6, h7, h8⟩
  case extRam o =>
    unfold mbcWriteRam
    split
    · rename_i k hk
      exact ⟨h1, h2, h3, h4, h5, h6, Memory.wf_write _ _ _ (extramIndex_lt (by obtain ⟨h, _⟩ := route_eq hr; omega) hk) h7, h8⟩
    · exact ⟨h1, h2, h3, h4, h5, h6, h7, h8⟩
  case wram o => exact ⟨h1, h2, h3, Memory.wf_write _ _ _ (by obtain ⟨h, _⟩ := route_eq hr; omega) h4, h5, h6, h7, h8⟩
  case oam o => exact ⟨h1, h2, h3, h4, Memory.wf_write _ _ _ (by obtain ⟨h, _⟩ := route_eq hr; omega) h5, h6, h7, h8⟩
  case hram o => exact ⟨h1, h2, h3, h4, h5, Memory.wf_write _ _ _ (by obtain ⟨h, _⟩ := route_eq hr; omega) h6, h7, h8⟩
  all_goals exact ⟨h1, h2, h3, h4, h5, h6, h7, h8⟩

/-- A word store keeps the canonical form. -/
theorem write16_canonical (a v : Word) (s : State) (h : s.MemoryCanonical) : (write16 a v s).MemoryCanonical :=
  write8_canonical _ _ _ (write8_canonical _ _ _ h)

/-- A push keeps the canonical form. -/
theorem push16_canonical (v : Word) (s : State) (h : s.MemoryCanonical) : (push16 v s).MemoryCanonical :=
  write16_canonical _ _ _ (MemoryCanonical_congr (s := s) rfl rfl h)

theorem renderColumns_wf (p : Ppu) (vram : Memory 8) (line n x : Nat) (fb : Memory 2) (hl : line < 256)
    (hx : x + n ≤ 256) (h : Memory.wf 0x10000 fb = true) :
    Memory.wf 0x10000 (renderColumns p vram line n x fb) = true := by
  induction n generalizing x fb with
  | zero => exact h
  | succ n ih => exact ih (x + 1) _ (by omega) (Memory.wf_write _ _ _ (by omega) h)

/-- Rendering a line keeps the canonical form. -/
theorem renderScanline_canonical (line : Nat) (s : State) (hl : line < 256) (h : s.MemoryCanonical) :
    (renderScanline line s).MemoryCanonical := by
  obtain ⟨h1, h2, h3, h4, h5, h6, h7, h8⟩ := h
  unfold State.MemoryCanonical
  rw [renderScanline_arrays, renderScanline_ppu_fb]
  exact ⟨h1, h2, h3, h4, h5, h6, h7, renderColumns_wf _ _ _ _ _ _ hl (by omega) h8⟩

/-- The memory of a state just powered on is canonical when the images are. -/
theorem powerOn_canonical (boot rom : Memory 8) (n : Nat) (k : MbcKind) (p : Params) (hb : Memory.wf 0x100 boot = true)
    (hr : Memory.wf n rom = true) : (State.powerOn boot rom n k p).MemoryCanonical :=
  ⟨hb, hr, rfl, rfl, rfl, rfl, rfl, rfl⟩

/-- The memory at reset is canonical. -/
theorem reset_canonical : State.reset.MemoryCanonical := powerOn_canonical _ _ _ _ _ rfl rfl

end Sys2Proof.Machine
end

