-- ==== Sys2Proof/Laws/Devices.lean ====
section
/-! SUPPORT. The laws of the timer and of the PPU's loop: which fields a tick leaves alone, what one round of each loop
does, that the PPU loop's bound is never reached, and what a rendered row holds. -/

namespace Sys2Proof.Machine

/-! ### Timer -/

theorem timaPeriod_pos (tac : Byte) : 0 < timaPeriod tac := by
  unfold timaPeriod; split <;> omega

theorem timaPeriod_le (tac : Byte) : timaPeriod tac ≤ 1024 := by
  unfold timaPeriod; split <;> omega

@[simp] theorem timaIncrements_cpu (n : Nat) (s : State) :
    (timaIncrements n s).cpu = s.cpu := by
  induction n generalizing s with
  | zero => rfl
  | succ n ih => rw [timaIncrements, ih, timaIncrement_cpu]
@[simp] theorem timaIncrements_ie (n : Nat) (s : State) :
    (timaIncrements n s).ie = s.ie := by
  induction n generalizing s with
  | zero => rfl
  | succ n ih => rw [timaIncrements, ih, timaIncrement_ie]
@[simp] theorem timaIncrements_ppu (n : Nat) (s : State) :
    (timaIncrements n s).ppu = s.ppu := by
  induction n generalizing s with
  | zero => rfl
  | succ n ih => rw [timaIncrements, ih, timaIncrement_ppu]
@[simp] theorem timaIncrements_joypad (n : Nat) (s : State) :
    (timaIncrements n s).joypad = s.joypad := by
  induction n generalizing s with
  | zero => rfl
  | succ n ih => rw [timaIncrements, ih, timaIncrement_joypad]
@[simp] theorem timaIncrements_mbc (n : Nat) (s : State) :
    (timaIncrements n s).mbc = s.mbc := by
  induction n generalizing s with
  | zero => rfl
  | succ n ih => rw [timaIncrements, ih, timaIncrement_mbc]
@[simp] theorem timaIncrements_arrays (n : Nat) (s : State) :
    (timaIncrements n s).arrays = s.arrays := by
  induction n generalizing s with
  | zero => rfl
  | succ n ih => rw [timaIncrements, ih, timaIncrement_arrays]
@[simp] theorem timaIncrements_bootEnabled (n : Nat) (s : State) :
    (timaIncrements n s).bootEnabled = s.bootEnabled := by
  induction n generalizing s with
  | zero => rfl
  | succ n ih => rw [timaIncrements, ih, timaIncrement_bootEnabled]
@[simp] theorem timaIncrements_params (n : Nat) (s : State) :
    (timaIncrements n s).params = s.params := by
  induction n generalizing s with
  | zero => rfl
  | succ n ih => rw [timaIncrements, ih, timaIncrement_params]
@[simp] theorem timaIncrements_timer_div (n : Nat) (s : State) :
    (timaIncrements n s).timer.div = s.timer.div := by
  induction n generalizing s with
  | zero => rfl
  | succ n ih => rw [timaIncrements, ih, timaIncrement_timer_div]
@[simp] theorem timaIncrements_timer_tma (n : Nat) (s : State) :
    (timaIncrements n s).timer.tma = s.timer.tma := by
  induction n generalizing s with
  | zero => rfl
  | succ n ih => rw [timaIncrements, ih, timaIncrement_timer_tma]
@[simp] theorem timaIncrements_timer_tac (n : Nat) (s : State) :
    (timaIncrements n s).timer.tac = s.timer.tac := by
  induction n generalizing s with
  | zero => rfl
  | succ n ih => rw [timaIncrements, ih, timaIncrement_timer_tac]
@[simp] theorem timaIncrements_timer_divAcc (n : Nat) (s : State) :
    (timaIncrements n s).timer.divAcc = s.timer.divAcc := by
  induction n generalizing s with
  | zero => rfl
  | succ n ih => rw [timaIncrements, ih, timaIncrement_timer_divAcc]
@[simp] theorem timaIncrements_timer_timaAcc (n : Nat) (s : State) :
    (timaIncrements n s).timer.timaAcc = s.timer.timaAcc := by
  induction n generalizing s with
  | zero => rfl
  | succ n ih => rw [timaIncrements, ih, timaIncrement_timer_timaAcc]

@[simp] theorem timaTick_cpu (c : Nat) (s : State) : (timaTick c s).cpu = s.cpu := by unfold timaTick; split <;> simp
@[simp] theorem timaTick_ie (c : Nat) (s : State) : (timaTick c s).ie = s.ie := by unfold timaTick; split <;> simp
@[simp] theorem timaTick_ppu (c : Nat) (s : State) : (timaTick c s).ppu = s.ppu := by unfold timaTick; split <;> simp
@[simp] theorem timaTick_joypad (c : Nat) (s : State) :
    (timaTick c s).joypad = s.joypad := by unfold timaTick; split <;> simp
@[simp] theorem timaTick_mbc (c : Nat) (s : State) : (timaTick c s).mbc = s.mbc := by unfold timaTick; split <;> simp
@[simp] theorem timaTick_arrays (c : Nat) (s : State) :
    (timaTick c s).arrays = s.arrays := by unfold timaTick; split <;> simp
@[simp] theorem timaTick_bootEnabled (c : Nat) (s : State) :
    (timaTick c s).bootEnabled = s.bootEnabled := by unfold timaTick; split <;> simp
@[simp] theorem timaTick_params (c : Nat) (s : State) :
    (timaTick c s).params = s.params := by unfold timaTick; split <;> simp
@[simp] theorem timaTick_timer_div (c : Nat) (s : State) :
    (timaTick c s).timer.div = s.timer.div := by unfold timaTick; split <;> simp
@[simp] theorem timaTick_timer_tma (c : Nat) (s : State) :
    (timaTick c s).timer.tma = s.timer.tma := by unfold timaTick; split <;> simp
@[simp] theorem timaTick_timer_tac (c : Nat) (s : State) :
    (timaTick c s).timer.tac = s.timer.tac := by unfold timaTick; split <;> simp
@[simp] theorem timaTick_timer_divAcc (c : Nat) (s : State) :
    (timaTick c s).timer.divAcc = s.timer.divAcc := by unfold timaTick; split <;> simp

@[simp] theorem timerTick_cpu (c : Nat) (s : State) : (timerTick c s).cpu = s.cpu := by simp [timerTick]
@[simp] theorem timerTick_ie (c : Nat) (s : State) : (timerTick c s).ie = s.ie := by simp [timerTick]
@[simp] theorem timerTick_ppu (c : Nat) (s : State) : (timerTick c s).ppu = s.ppu := by simp [timerTick]
@[simp] theorem timerTick_joypad (c : Nat) (s : State) : (timerTick c s).joypad = s.joypad := by simp [timerTick]
@[simp] theorem timerTick_mbc (c : Nat) (s : State) : (timerTick c s).mbc = s.mbc := by simp [timerTick]
@[simp] theorem timerTick_arrays (c : Nat) (s : State) : (timerTick c s).arrays = s.arrays := by simp [timerTick]
@[simp] theorem timerTick_bootEnabled (c : Nat) (s : State) :
    (timerTick c s).bootEnabled = s.bootEnabled := by simp [timerTick]
@[simp] theorem timerTick_params (c : Nat) (s : State) : (timerTick c s).params = s.params := by simp [timerTick]
@[simp] theorem timerTick_timer_tma (c : Nat) (s : State) :
    (timerTick c s).timer.tma = s.timer.tma := by simp [timerTick]
@[simp] theorem timerTick_timer_tac (c : Nat) (s : State) :
    (timerTick c s).timer.tac = s.timer.tac := by simp [timerTick]

theorem timerTick_timer_div (c : Nat) (s : State) :
    (timerTick c s).timer.div = s.timer.div + BitVec.ofNat 8 ((s.timer.divAcc + c) / 256) := by
  simp [timerTick, divTick]

theorem timerTick_timer_divAcc (c : Nat) (s : State) :
    (timerTick c s).timer.divAcc = (s.timer.divAcc + c) % 256 := by
  simp [timerTick]

/-- With the timer off, nothing of TIMA moves. -/
theorem timaTick_off (c : Nat) (s : State) (h : s.timer.tac.getLsbD 2 = false) : timaTick c s = s := by
  unfold timaTick; rw [h]; rfl

/-- With the timer on, the accumulator keeps the remainder and TIMA is incremented once for each whole period. -/
theorem timaTick_on (c : Nat) (s : State) (h : s.timer.tac.getLsbD 2 = true) :
    timaTick c s = timaIncrements ((s.timer.timaAcc + c) / timaPeriod s.timer.tac)
      { s with timer := { s.timer with timaAcc := (s.timer.timaAcc + c) % timaPeriod s.timer.tac } } := by
  unfold timaTick; rw [h]; rfl

theorem timaIncrements_add (m n : Nat) (s : State) :
    timaIncrements (m + n) s = timaIncrements n (timaIncrements m s) := by
  induction m generalizing s with
  | zero => simp [timaIncrements]
  | succ m ih => rw [Nat.succ_add, timaIncrements, timaIncrements, ih]

/-- A tick keeps the accumulators below their bounds. -/
theorem timerTick_bounded (c : Nat) (s : State) (h : s.TimerBounded) : (timerTick c s).TimerBounded := by
  refine ⟨?_, ?_⟩
  · rw [timerTick_timer_divAcc]; omega
  · unfold timerTick
    cases ht : (divTick c s).timer.tac.getLsbD 2
    · rw [timaTick_off _ _ ht]; exact h.2
    · rw [timaTick_on _ _ ht, timaIncrements_timer_timaAcc]
      exact Nat.lt_of_lt_of_le (Nat.mod_lt _ (timaPeriod_pos _)) (timaPeriod_le _)

/-! ### PPU -/

@[simp] theorem ppuTransition_ppu_lcdc (s : State) :
    (ppuTransition s).ppu.lcdc = s.ppu.lcdc := by
  unfold ppuTransition; split <;> (try dsimp only) <;> (repeat' split) <;> simp
@[simp] theorem ppuTransition_ppu_statSel (s : State) :
    (ppuTransition s).ppu.statSel = s.ppu.statSel := by
  unfold ppuTransition; split <;> (try dsimp only) <;> (repeat' split) <;> simp
@[simp] theorem ppuTransition_ppu_scy (s : State) :
    (ppuTransition s).ppu.scy = s.ppu.scy := by
  unfold ppuTransition; split <;> (try dsimp only) <;> (repeat' split) <;> simp
@[simp] theorem ppuTransition_ppu_scx (s : State) :
    (ppuTransition s).ppu.scx = s.ppu.scx := by
  unfold ppuTransition; split <;> (try dsimp only) <;> (repeat' split) <;> simp
@[simp] theorem ppuTransition_ppu_bgp (s : State) :
    (ppuTransition s).ppu.bgp = s.ppu.bgp := by
  unfold ppuTransition; split <;> (try dsimp only) <;> (repeat' split) <;> simp
@[simp] theorem ppuTransition_ppu_acc (s : State) :
    (ppuTransition s).ppu.acc = s.ppu.acc := by
  unfold ppuTransition; split <;> (try dsimp only) <;> (repeat' split) <;> simp
@[simp] theorem ppuLoop_cpu (n : Nat) (s : State) :
    (ppuLoop n s).cpu = s.cpu := by
  induction n generalizing s with
  | zero => rfl
  | succ n ih =>
    unfold ppuLoop; split
    · rfl
    · rw [ih, ppuTransition_cpu, setPpuAcc_cpu]
@[simp] theorem ppuLoop_ie (n : Nat) (s : State) :
    (ppuLoop n s).ie = s.ie := by
  induction n generalizing s with
  | zero => rfl
  | succ n ih =>
    unfold ppuLoop; split
    · rfl
    · rw [ih, ppuTransition_ie, setPpuAcc_ie]
@[simp] theorem ppuLoop_timer (n : Nat) (s : State) :
    (ppuLoop n s).timer = s.timer := by
  induction n generalizing s with
  | zero => rfl
  | succ n ih =>
    unfold ppuLoop; split
    · rfl
    · rw [ih, ppuTransition_timer, setPpuAcc_timer]
@[simp] theorem ppuLoop_joypad (n : Nat) (s : State) :
    (ppuLoop n s).joypad = s.joypad := by
  induction n generalizing s with
  | zero => rfl
  | succ n ih =>
    unfold ppuLoop; split
    · rfl
    · rw [ih, ppuTransition_joypad, setPpuAcc_joypad]
@[simp] theorem ppuLoop_mbc (n : Nat) (s : State) :
    (ppuLoop n s).mbc = s.mbc := by
  induction n generalizing s with
  | zero => rfl
  | succ n ih =>
    unfold ppuLoop; split
    · rfl
    · rw [ih, ppuTransition_mbc, setPpuAcc_mbc]
@[simp] theorem ppuLoop_arrays (n : Nat) (s : State) :
    (ppuLoop n s).arrays = s.arrays := by
  induction n generalizing s with
  | zero => rfl
  | succ n ih =>
    unfold ppuLoop; split
    · rfl
    · rw [ih, ppuTransition_arrays, setPpuAcc_arrays]
@[simp] theorem ppuLoop_bootEnabled (n : Nat) (s : State) :
    (ppuLoop n s).bootEnabled = s.bootEnabled := by
  induction n generalizing s with
  | zero => rfl
  | succ n ih =>
    unfold ppuLoop; split
    · rfl
    · rw [ih, ppuTransition_bootEnabled, setPpuAcc_bootEnabled]
@[simp] theorem ppuLoop_params (n : Nat) (s : State) :
    (ppuLoop n s).params = s.params := by
  induction n generalizing s with
  | zero => rfl
  | succ n ih =>
    unfold ppuLoop; split
    · rfl
    · rw [ih, ppuTransition_params, setPpuAcc_params]
@[simp] theorem ppuLoop_ppu_lcdc (n : Nat) (s : State) :
    (ppuLoop n s).ppu.lcdc = s.ppu.lcdc := by
  induction n generalizing s with
  | zero => rfl
  | succ n ih =>
    unfold ppuLoop; split
    · rfl
    · rw [ih, ppuTransition_ppu_lcdc, setPpuAcc_ppu_lcdc]
@[simp] theorem ppuLoop_ppu_statSel (n : Nat) (s : State) :
    (ppuLoop n s).ppu.statSel = s.ppu.statSel := by
  induction n generalizing s with
  | zero => rfl
  | succ n ih =>
    unfold ppuLoop; split
    · rfl
    · rw [ih, ppuTransition_ppu_statSel, setPpuAcc_ppu_statSel]
@[simp] theorem ppuLoop_ppu_scy (n : Nat) (s : State) :
    (ppuLoop n s).ppu.scy = s.ppu.scy := by
  induction n generalizing s with
  | zero => rfl
  | succ n ih =>
    unfold ppuLoop; split
    · rfl
    · rw [ih, ppuTransition_ppu_scy, setPpuAcc_ppu_scy]
@[simp] theorem ppuLoop_ppu_scx (n : Nat) (s : State) :
    (ppuLoop n s).ppu.scx = s.ppu.scx := by
  induction n generalizing s with
  | zero => rfl
  | succ n ih =>
    unfold ppuLoop; split
    · rfl
    · rw [ih, ppuTransition_ppu_scx, setPpuAcc_ppu_scx]
@[simp] theorem ppuLoop_ppu_bgp (n : Nat) (s : State) :
    (ppuLoop n s).ppu.bgp = s.ppu.bgp := by
  induction n generalizing s with
  | zero => rfl
  | succ n ih =>
    unfold ppuLoop; split
    · rfl
    · rw [ih, ppuTransition_ppu_bgp, setPpuAcc_ppu_bgp]

@[simp] theorem ppuStep_cpu (c : Nat) (s : State) : (ppuStep c s).cpu = s.cpu := by simp [ppuStep]
@[simp] theorem ppuStep_ie (c : Nat) (s : State) : (ppuStep c s).ie = s.ie := by simp [ppuStep]
@[simp] theorem ppuStep_timer (c : Nat) (s : State) : (ppuStep c s).timer = s.timer := by simp [ppuStep]
@[simp] theorem ppuStep_joypad (c : Nat) (s : State) : (ppuStep c s).joypad = s.joypad := by simp [ppuStep]
@[simp] theorem ppuStep_mbc (c : Nat) (s : State) : (ppuStep c s).mbc = s.mbc := by simp [ppuStep]
@[simp] theorem ppuStep_arrays (c : Nat) (s : State) : (ppuStep c s).arrays = s.arrays := by simp [ppuStep]
@[simp] theorem ppuStep_bootEnabled (c : Nat) (s : State) :
    (ppuStep c s).bootEnabled = s.bootEnabled := by simp [ppuStep]
@[simp] theorem ppuStep_params (c : Nat) (s : State) : (ppuStep c s).params = s.params := by simp [ppuStep]
@[simp] theorem ppuStep_ppu_lcdc (c : Nat) (s : State) : (ppuStep c s).ppu.lcdc = s.ppu.lcdc := by simp [ppuStep]
@[simp] theorem ppuStep_ppu_statSel (c : Nat) (s : State) :
    (ppuStep c s).ppu.statSel = s.ppu.statSel := by simp [ppuStep]
@[simp] theorem ppuStep_ppu_scy (c : Nat) (s : State) : (ppuStep c s).ppu.scy = s.ppu.scy := by simp [ppuStep]
@[simp] theorem ppuStep_ppu_scx (c : Nat) (s : State) : (ppuStep c s).ppu.scx = s.ppu.scx := by simp [ppuStep]
@[simp] theorem ppuStep_ppu_bgp (c : Nat) (s : State) : (ppuStep c s).ppu.bgp = s.ppu.bgp := by simp [ppuStep]

theorem budget_pos (m : PpuMode) : 80 ≤ m.budget := by cases m <;> decide

/-- Below the budget the loop is over. -/
theorem ppuLoop_done (n : Nat) (s : State) (h : s.ppu.acc < s.ppu.mode.budget) : ppuLoop n s = s := by
  cases n with
  | zero => rfl
  | succ n => unfold ppuLoop; rw [if_pos h]

/-- Two bounds that are both large enough give the same. -/
theorem ppuLoop_bound (m n : Nat) (s : State) (hm : s.ppu.acc ≤ m) (hn : s.ppu.acc ≤ n) :
    ppuLoop m s = ppuLoop n s := by
  induction m generalizing n s with
  | zero =>
    have := budget_pos s.ppu.mode
    rw [ppuLoop_done _ _ (by omega), ppuLoop_done _ _ (by omega)]
  | succ m ih =>
    have := budget_pos s.ppu.mode
    by_cases h : s.ppu.acc < s.ppu.mode.budget
    · rw [ppuLoop_done _ _ h, ppuLoop_done _ _ h]
    · cases n with
      | zero => omega
      | succ n =>
        unfold ppuLoop
        rw [if_neg h, if_neg h]
        exact ih _ _ (by simp; omega) (by simp; omega)

/-- Cycles short of the budget accumulate. -/
theorem ppuStep_short (c : Nat) (s : State) (h : s.ppu.acc + c < s.ppu.mode.budget) :
    ppuStep c s = setPpuAcc (s.ppu.acc + c) s := ppuLoop_done _ _ (by simpa using h)

theorem ppuStep_zero (s : State) : ppuStep 0 s = ppuLoop s.ppu.acc s := rfl

/-- Cycles that reach the budget make one transition, and the step goes on from there. -/
theorem ppuStep_reach (c : Nat) (s : State) (h : s.ppu.mode.budget ≤ s.ppu.acc + c) :
    ppuStep c s = ppuStep 0 (ppuTransition (setPpuAcc (s.ppu.acc + c - s.ppu.mode.budget) s)) := by
  have := budget_pos s.ppu.mode
  obtain ⟨n, hn⟩ : ∃ n, s.ppu.acc + c = n + 1 := ⟨s.ppu.acc + c - 1, by omega⟩
  rw [ppuStep_zero, ppuTransition_ppu_acc, setPpuAcc_ppu_acc]
  rw [ppuLoop_bound _ n _ (by simp) (by simp; omega)]
  unfold ppuStep
  rw [hn, ppuLoop, if_neg (by simp; omega)]
  rfl

/-- The accumulator goes through a transition untouched: a transition on a state with another accumulator is the
transition with that accumulator. -/
theorem renderColumns_acc (p : Ppu) (a : Nat) (vram : Memory 8) (line n x : Nat) (fb : Memory 2) :
    renderColumns { p with acc := a } vram line n x fb = renderColumns p vram line n x fb := by
  induction n generalizing x fb with
  | zero => rfl
  | succ n ih => rw [renderColumns, ih]; rfl

theorem ppuTransition_setPpuAcc (a : Nat) (s : State) :
    ppuTransition (setPpuAcc a s) = setPpuAcc a (ppuTransition s) := by
  unfold ppuTransition
  rw [setPpuAcc_ppu_mode]
  split
  · rfl
  · simp only [renderScanline, setPpuAcc, renderColumns_acc, setMode]
  · dsimp only
    rw [apply_ite (setPpuAcc a), apply_ite (setPpuAcc a)]
    rfl
  · dsimp only
    rw [apply_ite (setPpuAcc a)]
    rfl

/-- A step keeps the accumulator below the budget of the mode it ends in. -/
theorem ppuStep_acc_lt (c : Nat) (s : State) : (ppuStep c s).ppu.acc < (ppuStep c s).ppu.mode.budget := by
  generalize hk : s.ppu.acc + c = k
  induction k using Nat.strongRecOn generalizing c s with
  | ind k ih =>
    have := budget_pos s.ppu.mode
    by_cases h : s.ppu.acc + c < s.ppu.mode.budget
    · rw [ppuStep_short _ _ h]; simpa using h
    · rw [ppuStep_reach _ _ (by omega)]
      exact ih (s.ppu.acc + c - s.ppu.mode.budget) (by omega) _ _ (by simp)

/-- A property of the state that setting the accumulator and every transition keep is kept by a step. -/
theorem ppuStep_induction {P : State → Prop} (hacc : ∀ a s, P s → P (setPpuAcc a s))
    (ht : ∀ s, P s → P (ppuTransition s)) (c : Nat) (s : State) (h : P s) : P (ppuStep c s) := by
  generalize hk : s.ppu.acc + c = k
  induction k using Nat.strongRecOn generalizing c s with
  | ind k ih =>
    have := budget_pos s.ppu.mode
    by_cases hb : s.ppu.acc + c < s.ppu.mode.budget
    · rw [ppuStep_short _ _ hb]; exact hacc _ _ h
    · rw [ppuStep_reach _ _ (by omega)]
      exact ih (s.ppu.acc + c - s.ppu.mode.budget) (by omega) _ _ (ht _ (hacc _ _ h)) (by simp)

/-! ### A rendered row -/

/-- What drawing columns does to what is read of the framebuffer. -/
theorem read_renderColumns (p : Ppu) (vram : Memory 8) (line n x : Nat) (fb : Memory 2) (k : Nat) :
    Memory.read (renderColumns p vram line n x fb) k =
      if 256 * line + x ≤ k ∧ k < 256 * line + x + n then pixelShade p vram line (k - 256 * line)
      else Memory.read fb k := by
  induction n generalizing x fb with
  | zero => rw [if_neg (by omega)]; rfl
  | succ n ih =>
    rw [renderColumns, ih, Memory.read_write]
    by_cases h1 : k = 256 * line + x
    · rw [if_neg (by omega), if_pos h1, if_pos (by omega), h1, Nat.add_sub_cancel_left]
    · rw [if_neg h1]
      by_cases h2 : 256 * line + (x + 1) ≤ k ∧ k < 256 * line + (x + 1) + n
      · rw [if_pos h2, if_pos (by omega)]
      · rw [if_neg h2, if_neg (by omega)]

end Sys2Proof.Machine
end

