-- ==== Sys2Proof/Laws/Forms.lean ====
section
/-! SUPPORT. The instructions by form. 512 constructors fall under 48 forms; `Form.cover` gives the form of an
instruction and one lemma per function (`exec_form`, `encode_form`, `cycles_form`, `stores_form`) says what the function
does with every form, so that a proof about all instructions has 48 cases and unfolds no meaning. -/

namespace Sys2Proof.Machine

/-- Where the plain loads and stores of A look (44_loads.md R605 to R614). -/
inductive AAddr where
  | atBc | atDe | pageC
  | page (n : Byte)
  | abs (n : Word)

/-- The address. -/
def AAddr.addr : AAddr → State → Word
  | .atBc, s => getPair .bc s
  | .atDe, s => getPair .de s
  | .pageC, s => highPage s.cpu.c
  | .page n, _ => highPage n
  | .abs n, _ => n

/-- The undefined opcodes (45_system.md R656). -/
inductive UndefinedOp where
  | opD3 | opDB | opDD | opE3 | opE4 | opEB | opEC | opED | opF4 | opFC | opFD

/-- The opcode byte. -/
def UndefinedOp.byte : UndefinedOp → Byte
  | .opD3 => 0xD3#8
  | .opDB => 0xDB#8
  | .opDD => 0xDD#8
  | .opE3 => 0xE3#8
  | .opE4 => 0xE4#8
  | .opEB => 0xEB#8
  | .opEC => 0xEC#8
  | .opED => 0xED#8
  | .opF4 => 0xF4#8
  | .opFC => 0xFC#8
  | .opFD => 0xFD#8

/-- The row. -/
def UndefinedOp.instr : UndefinedOp → Instr
  | .opD3 => .illegalD3
  | .opDB => .illegalDB
  | .opDD => .illegalDD
  | .opE3 => .illegalE3
  | .opE4 => .illegalE4
  | .opEB => .illegalEB
  | .opEC => .illegalEC
  | .opED => .illegalED
  | .opF4 => .illegalF4
  | .opFC => .illegalFC
  | .opFD => .illegalFD

/-- The accumulator rotates (42_rotate_shift_bit.md R501 to R504). -/
inductive ARot where
  | rlc | rrc | rl | rr

/-- The row. -/
def ARot.instr : ARot → Instr
  | .rlc => .rlca | .rrc => .rrca | .rl => .rla | .rr => .rra

/-- The rotate. -/
def ARot.op : ARot → RotOp
  | .rlc => .rlc | .rrc => .rrc | .rl => .rl | .rr => .rr

/-- The opcode. -/
def ARot.code : ARot → Byte
  | .rlc => 0x07#8 | .rrc => 0x0F#8 | .rl => 0x17#8 | .rr => 0x1F#8

/-- The row that loads A from there. -/
def AAddr.loadInstr : AAddr → Instr
  | .atBc => .ldAAtBc | .atDe => .ldAAtDe | .pageC => .ldAAtC | .page n => .ldhAAtN8 n | .abs n => .ldAAtN16 n

/-- The row that stores A there. -/
def AAddr.storeInstr : AAddr → Instr
  | .atBc => .ldAtBcA | .atDe => .ldAtDeA | .pageC => .ldAtCA | .page n => .ldhAtN8A n | .abs n => .ldAtN16A n

/-- The loading row's bytes. -/
def AAddr.loadBytes : AAddr → List Byte
  | .atBc => [0x0A#8] | .atDe => [0x1A#8] | .pageC => [0xF2#8] | .page n => [0xF0#8, n]
  | .abs n => [0xFA#8, loByte n, hiByte n]

/-- The storing row's bytes. -/
def AAddr.storeBytes : AAddr → List Byte
  | .atBc => [0x02#8] | .atDe => [0x12#8] | .pageC => [0xE2#8] | .page n => [0xE0#8, n]
  | .abs n => [0xEA#8, loByte n, hiByte n]

/-- Either row's cost. -/
def AAddr.cost : AAddr → Nat
  | .atBc | .atDe | .pageC => 8
  | .page _ => 12
  | .abs _ => 16

/-- The ALU field's codes (30_encoding.md R306). -/
def aluCode : AluOp → Byte
  | .add => 0#8 | .adc => 1#8 | .sub => 2#8 | .sbc => 3#8 | .and => 4#8 | .xor => 5#8 | .or => 6#8 | .cp => 7#8

/-- The CB shift and rotate field's codes (30_encoding.md R307). -/
def rotCode : RotOp → Byte
  | .rlc => 0#8 | .rrc => 1#8 | .rl => 2#8 | .rr => 3#8 | .sla => 4#8 | .sra => 5#8 | .swap => 6#8 | .srl => 7#8

/-- The forms. -/
inductive Form where
  | alu (op : AluOp) (o : Operand8)
  | aluImm (op : AluOp) (n : Byte)
  | inc (o : Operand8)
  | dec (o : Operand8)
  | daa
  | cpl
  | scf
  | ccf
  | addHl (p : Pair)
  | incPair (p : Pair)
  | decPair (p : Pair)
  | addSp (e : Byte)
  | ldHlSp (e : Byte)
  | rotA (op : ARot)
  | rot (op : RotOp) (o : Operand8)
  | bit (b : Fin 8) (o : Operand8)
  | res (b : Fin 8) (o : Operand8)
  | set (b : Fin 8) (o : Operand8)
  | jp (n : Word)
  | jpCond (cc : Cond) (n : Word)
  | jpHl
  | jr (e : Byte)
  | jrCond (cc : Cond) (e : Byte)
  | call (n : Word)
  | callCond (cc : Cond) (n : Word)
  | ret
  | retCond (cc : Cond)
  | rst (y : Fin 8)
  | reti
  | push (p : StackPair)
  | pop (p : StackPair)
  | ldReg (r : Reg8) (o : Operand8)
  | ldHlReg (r : Reg8)
  | ldImm (o : Operand8) (n : Byte)
  | ldA (x : AAddr)
  | stA (x : AAddr)
  | ldAHl (up : Bool)
  | stAHl (up : Bool)
  | ldPair (p : Pair) (n : Word)
  | stSp (n : Word)
  | ldSpHl
  | nop
  | halt
  | stop (n : Byte)
  | di
  | ei
  | prefixCb
  | undefined (u : UndefinedOp)

/-- The instruction of a form. -/
def Form.instr : Form → Instr
  | .alu op o => aluInstr op o
  | .aluImm op n => aluImmInstr op n
  | .inc o => incInstr o
  | .dec o => decInstr o
  | .daa => .daa
  | .cpl => .cpl
  | .scf => .scf
  | .ccf => .ccf
  | .addHl p => addHlInstr p
  | .incPair p => incPairInstr p
  | .decPair p => decPairInstr p
  | .addSp e => .addSpE8 e
  | .ldHlSp e => .ldHlSpE8 e
  | .rotA op => op.instr
  | .rot op o => rotInstr op o
  | .bit b o => bitInstr b o
  | .res b o => resInstr b o
  | .set b o => setInstr b o
  | .jp n => .jpN16 n
  | .jpCond cc n => jpCondInstr cc n
  | .jpHl => .jpHl
  | .jr e => .jrE8 e
  | .jrCond cc e => jrCondInstr cc e
  | .call n => .callN16 n
  | .callCond cc n => callCondInstr cc n
  | .ret => .ret
  | .retCond cc => retCondInstr cc
  | .rst y => rstInstr y
  | .reti => .reti
  | .push p => pushInstr p
  | .pop p => popInstr p
  | .ldReg r o => ldInstr (.reg r) o
  | .ldHlReg r => ldInstr .atHl (.reg r)
  | .ldImm o n => ldImmInstr o n
  | .ldA x => x.loadInstr
  | .stA x => x.storeInstr
  | .ldAHl up => if up then .ldAAtHlInc else .ldAAtHlDec
  | .stAHl up => if up then .ldAtHlIncA else .ldAtHlDecA
  | .ldPair p n => ldPairInstr p n
  | .stSp n => .ldAtN16Sp n
  | .ldSpHl => .ldSpHl
  | .nop => .nop
  | .halt => .halt
  | .stop n => .stop n
  | .di => .di
  | .ei => .ei
  | .prefixCb => .prefixCb
  | .undefined u => u.instr

/-- What the instruction does. -/
def Form.run : Form → State → State
  | .alu op o, s => aluOperand op o s
  | .aluImm op n, s => aluValue op n s
  | .inc o, s => incOperand o s
  | .dec o, s => decOperand o s
  | .daa, s => daaA s
  | .cpl, s => complementA s
  | .scf, s => setCarry s
  | .ccf, s => complementCarry s
  | .addHl p, s => addHlPair p s
  | .incPair p, s => Machine.incPair p s
  | .decPair p, s => Machine.decPair p s
  | .addSp e, s => addSpDisp e s
  | .ldHlSp e, s => ldHlSpDisp e s
  | .rotA op, s => Machine.rotA op.op s
  | .rot op o, s => rotOperand op o s
  | .bit b o, s => bitOperand b.val o s
  | .res b o, s => resOperand b.val o s
  | .set b o, s => setOperand b.val o s
  | .jp n, s => setPc n s
  | .jpCond cc n, s => whenCond cc (setPc n) s
  | .jpHl, s => setPc (getHl s) s
  | .jr e, s => jumpRelative e s
  | .jrCond cc e, s => whenCond cc (jumpRelative e) s
  | .call n, s => callTo n s
  | .callCond cc n, s => whenCond cc (callTo n) s
  | .ret, s => returnPop s
  | .retCond cc, s => whenCond cc returnPop s
  | .rst y, s => callTo (BitVec.ofNat 16 (8 * y.val)) s
  | .reti, s => returnFromInterrupt s
  | .push p, s => pushPair p s
  | .pop p, s => popPair p s
  | .ldReg r o, s => ldOperand (.reg r) o s
  | .ldHlReg r, s => ldOperand .atHl (.reg r) s
  | .ldImm o n, s => writeOperand o n s
  | .ldA x, s => loadA (x.addr s) s
  | .stA x, s => storeA (x.addr s) s
  | .ldAHl up, s => loadAThenMove (if up then 0x0001#16 else 0xFFFF#16) s
  | .stAHl up, s => storeAThenMove (if up then 0x0001#16 else 0xFFFF#16) s
  | .ldPair p n, s => setPair p n s
  | .stSp n, s => write16 n s.cpu.sp s
  | .ldSpHl, s => setSp (getHl s) s
  | .nop, s => s
  | .halt, s => setRunState .halted s
  | .stop _, s => setRunState .stopped s
  | .di, s => setIme false s
  | .ei, s => setEiPending s
  | .prefixCb, s => cbEffect (fetch8 s).1 (fetch8 s).2
  | .undefined u, s => raiseFault (.unhandledOpcode u.byte) s

/-- Its bytes. -/
def Form.bytes : Form → List Byte
  | .alu op o => [0x80#8 + 8#8 * aluCode op + r8Code o]
  | .aluImm op n => [0xC6#8 + 8#8 * aluCode op, n]
  | .inc o => [0x04#8 + 8#8 * r8Code o]
  | .dec o => [0x05#8 + 8#8 * r8Code o]
  | .daa => [0x27#8]
  | .cpl => [0x2F#8]
  | .scf => [0x37#8]
  | .ccf => [0x3F#8]
  | .addHl p => [0x09#8 + 16#8 * pairCode p]
  | .incPair p => [0x03#8 + 16#8 * pairCode p]
  | .decPair p => [0x0B#8 + 16#8 * pairCode p]
  | .addSp e => [0xE8#8, e]
  | .ldHlSp e => [0xF8#8, e]
  | .rotA op => [op.code]
  | .rot op o => [0xCB#8, 8#8 * rotCode op + r8Code o]
  | .bit b o => [0xCB#8, 0x40#8 + 8#8 * BitVec.ofNat 8 b.val + r8Code o]
  | .res b o => [0xCB#8, 0x80#8 + 8#8 * BitVec.ofNat 8 b.val + r8Code o]
  | .set b o => [0xCB#8, 0xC0#8 + 8#8 * BitVec.ofNat 8 b.val + r8Code o]
  | .jp n => [0xC3#8, loByte n, hiByte n]
  | .jpCond cc n => [0xC2#8 + 8#8 * condCode cc, loByte n, hiByte n]
  | .jpHl => [0xE9#8]
  | .jr e => [0x18#8, e]
  | .jrCond cc e => [0x20#8 + 8#8 * condCode cc, e]
  | .call n => [0xCD#8, loByte n, hiByte n]
  | .callCond cc n => [0xC4#8 + 8#8 * condCode cc, loByte n, hiByte n]
  | .ret => [0xC9#8]
  | .retCond cc => [0xC0#8 + 8#8 * condCode cc]
  | .rst y => [0xC7#8 + 8#8 * BitVec.ofNat 8 y.val]
  | .reti => [0xD9#8]
  | .push p => [0xC5#8 + 16#8 * stackPairCode p]
  | .pop p => [0xC1#8 + 16#8 * stackPairCode p]
  | .ldReg r o => [0x40#8 + 8#8 * r8Code (.reg r) + r8Code o]
  | .ldHlReg r => [0x70#8 + r8Code (.reg r)]
  | .ldImm o n => [0x06#8 + 8#8 * r8Code o, n]
  | .ldA x => x.loadBytes
  | .stA x => x.storeBytes
  | .ldAHl up => [if up then 0x2A#8 else 0x3A#8]
  | .stAHl up => [if up then 0x22#8 else 0x32#8]
  | .ldPair p n => [0x01#8 + 16#8 * pairCode p, loByte n, hiByte n]
  | .stSp n => [0x08#8, loByte n, hiByte n]
  | .ldSpHl => [0xF9#8]
  | .nop => [0x00#8]
  | .halt => [0x76#8]
  | .stop n => [0x10#8, n]
  | .di => [0xF3#8]
  | .ei => [0xFB#8]
  | .prefixCb => [0xCB#8]
  | .undefined u => [u.byte]

/-- Its cost. -/
def Form.cost : Form → State → Nat
  | .alu _ o, _ => if o = .atHl then 8 else 4
  | .aluImm _ _, _ => 8
  | .inc o, _ => if o = .atHl then 12 else 4
  | .dec o, _ => if o = .atHl then 12 else 4
  | .daa, _ => 4
  | .cpl, _ => 4
  | .scf, _ => 4
  | .ccf, _ => 4
  | .addHl _, _ => 8
  | .incPair _, _ => 8
  | .decPair _, _ => 8
  | .addSp _, _ => 16
  | .ldHlSp _, _ => 12
  | .rotA _, _ => 4
  | .rot _ o, _ => if o = .atHl then 16 else 8
  | .bit _ o, _ => if o = .atHl then 12 else 8
  | .res _ o, _ => if o = .atHl then 16 else 8
  | .set _ o, _ => if o = .atHl then 16 else 8
  | .jp _, _ => 16
  | .jpCond cc _, s => condCycles cc 16 12 s
  | .jpHl, _ => 4
  | .jr _, _ => 12
  | .jrCond cc _, s => condCycles cc 12 8 s
  | .call _, _ => 24
  | .callCond cc _, s => condCycles cc 24 12 s
  | .ret, _ => 16
  | .retCond cc, s => condCycles cc 20 8 s
  | .rst _, _ => 16
  | .reti, _ => 16
  | .push _, _ => 16
  | .pop _, _ => 12
  | .ldReg _ o, _ => if o = .atHl then 8 else 4
  | .ldHlReg _, _ => 8
  | .ldImm o _, _ => if o = .atHl then 12 else 8
  | .ldA x, _ => x.cost
  | .stA x, _ => x.cost
  | .ldAHl _, _ => 8
  | .stAHl _, _ => 8
  | .ldPair _ _, _ => 12
  | .stSp _, _ => 20
  | .ldSpHl, _ => 8
  | .nop, _ => 4
  | .halt, _ => 4
  | .stop _, _ => 4
  | .di, _ => 4
  | .ei, _ => 4
  | .prefixCb, s => cbCycles (read8 s.cpu.pc s)
  | .undefined _, _ => 0

/-- The addresses it stores to. -/
def Form.stores : Form → State → List Word
  | .alu _ _, _ => []
  | .aluImm _ _, _ => []
  | .inc o, s => if o = .atHl then [getHl s] else []
  | .dec o, s => if o = .atHl then [getHl s] else []
  | .daa, _ => []
  | .cpl, _ => []
  | .scf, _ => []
  | .ccf, _ => []
  | .addHl _, _ => []
  | .incPair _, _ => []
  | .decPair _, _ => []
  | .addSp _, _ => []
  | .ldHlSp _, _ => []
  | .rotA _, _ => []
  | .rot _ o, s => if o = .atHl then [getHl s] else []
  | .bit _ _, _ => []
  | .res _ o, s => if o = .atHl then [getHl s] else []
  | .set _ o, s => if o = .atHl then [getHl s] else []
  | .jp _, _ => []
  | .jpCond _ _, _ => []
  | .jpHl, _ => []
  | .jr _, _ => []
  | .jrCond _ _, _ => []
  | .call _, s => [s.cpu.sp - 2#16, s.cpu.sp - 1#16]
  | .callCond cc _, s => if condHolds cc s.cpu.f then [s.cpu.sp - 2#16, s.cpu.sp - 1#16] else []
  | .ret, _ => []
  | .retCond _, _ => []
  | .rst _, s => [s.cpu.sp - 2#16, s.cpu.sp - 1#16]
  | .reti, _ => []
  | .push _, s => [s.cpu.sp - 2#16, s.cpu.sp - 1#16]
  | .pop _, _ => []
  | .ldReg _ _, _ => []
  | .ldHlReg _, s => [getHl s]
  | .ldImm o _, s => if o = .atHl then [getHl s] else []
  | .ldA _, _ => []
  | .stA x, s => [x.addr s]
  | .ldAHl _, _ => []
  | .stAHl _, s => [getHl s]
  | .ldPair _ _, _ => []
  | .stSp n, _ => [n, n + 1#16]
  | .ldSpHl, _ => []
  | .nop, _ => []
  | .halt, _ => []
  | .stop _, _ => []
  | .di, _ => []
  | .ei, _ => []
  | .prefixCb, s => if fieldZ (read8 s.cpu.pc s) = 6 ∧ fieldX (read8 s.cpu.pc s) ≠ 1 then [getHl s] else []
  | .undefined _, _ => []

/-- The form of an instruction. -/
def formOf : Instr → Form
  | .nop => .nop
  | .ldBcN16 n => .ldPair .bc n
  | .ldAtBcA => .stA .atBc
  | .incBc => .incPair .bc
  | .incB => .inc (.reg .b)
  | .decB => .dec (.reg .b)
  | .ldBN8 n => .ldImm (.reg .b) n
  | .rlca => .rotA .rlc
  | .ldAtN16Sp n => .stSp n
  | .addHlBc => .addHl .bc
  | .ldAAtBc => .ldA .atBc
  | .decBc => .decPair .bc
  | .incC => .inc (.reg .c)
  | .decC => .dec (.reg .c)
  | .ldCN8 n => .ldImm (.reg .c) n
  | .rrca => .rotA .rrc
  | .stop n => .stop n
  | .ldDeN16 n => .ldPair .de n
  | .ldAtDeA => .stA .atDe
  | .incDe => .incPair .de
  | .incD => .inc (.reg .d)
  | .decD => .dec (.reg .d)
  | .ldDN8 n => .ldImm (.reg .d) n
  | .rla => .rotA .rl
  | .jrE8 e => .jr e
  | .addHlDe => .addHl .de
  | .ldAAtDe => .ldA .atDe
  | .decDe => .decPair .de
  | .incE => .inc (.reg .e)
  | .decE => .dec (.reg .e)
  | .ldEN8 n => .ldImm (.reg .e) n
  | .rra => .rotA .rr
  | .jrNzE8 e => .jrCond .nz e
  | .ldHlN16 n => .ldPair .hl n
  | .ldAtHlIncA => .stAHl true
  | .incHl => .incPair .hl
  | .incH => .inc (.reg .h)
  | .decH => .dec (.reg .h)
  | .ldHN8 n => .ldImm (.reg .h) n
  | .daa => .daa
  | .jrZE8 e => .jrCond .z e
  | .addHlHl => .addHl .hl
  | .ldAAtHlInc => .ldAHl true
  | .decHl => .decPair .hl
  | .incL => .inc (.reg .l)
  | .decL => .dec (.reg .l)
  | .ldLN8 n => .ldImm (.reg .l) n
  | .cpl => .cpl
  | .jrNcE8 e => .jrCond .nc e
  | .ldSpN16 n => .ldPair .sp n
  | .ldAtHlDecA => .stAHl false
  | .incSp => .incPair .sp
  | .incAtHl => .inc .atHl
  | .decAtHl => .dec .atHl
  | .ldAtHlN8 n => .ldImm .atHl n
  | .scf => .scf
  | .jrCE8 e => .jrCond .c e
  | .addHlSp => .addHl .sp
  | .ldAAtHlDec => .ldAHl false
  | .decSp => .decPair .sp
  | .incA => .inc (.reg .a)
  | .decA => .dec (.reg .a)
  | .ldAN8 n => .ldImm (.reg .a) n
  | .ccf => .ccf
  | .ldBB => .ldReg .b (.reg .b)
  | .ldBC => .ldReg .b (.reg .c)
  | .ldBD => .ldReg .b (.reg .d)
  | .ldBE => .ldReg .b (.reg .e)
  | .ldBH => .ldReg .b (.reg .h)
  | .ldBL => .ldReg .b (.reg .l)
  | .ldBAtHl => .ldReg .b .atHl
  | .ldBA => .ldReg .b (.reg .a)
  | .ldCB => .ldReg .c (.reg .b)
  | .ldCC => .ldReg .c (.reg .c)
  | .ldCD => .ldReg .c (.reg .d)
  | .ldCE => .ldReg .c (.reg .e)
  | .ldCH => .ldReg .c (.reg .h)
  | .ldCL => .ldReg .c (.reg .l)
  | .ldCAtHl => .ldReg .c .atHl
  | .ldCA => .ldReg .c (.reg .a)
  | .ldDB => .ldReg .d (.reg .b)
  | .ldDC => .ldReg .d (.reg .c)
  | .ldDD => .ldReg .d (.reg .d)
  | .ldDE => .ldReg .d (.reg .e)
  | .ldDH => .ldReg .d (.reg .h)
  | .ldDL => .ldReg .d (.reg .l)
  | .ldDAtHl => .ldReg .d .atHl
  | .ldDA => .ldReg .d (.reg .a)
  | .ldEB => .ldReg .e (.reg .b)
  | .ldEC => .ldReg .e (.reg .c)
  | .ldED => .ldReg .e (.reg .d)
  | .ldEE => .ldReg .e (.reg .e)
  | .ldEH => .ldReg .e (.reg .h)
  | .ldEL => .ldReg .e (.reg .l)
  | .ldEAtHl => .ldReg .e .atHl
  | .ldEA => .ldReg .e (.reg .a)
  | .ldHB => .ldReg .h (.reg .b)
  | .ldHC => .ldReg .h (.reg .c)
  | .ldHD => .ldReg .h (.reg .d)
  | .ldHE => .ldReg .h (.reg .e)
  | .ldHH => .ldReg .h (.reg .h)
  | .ldHL => .ldReg .h (.reg .l)
  | .ldHAtHl => .ldReg .h .atHl
  | .ldHA => .ldReg .h (.reg .a)
  | .ldLB => .ldReg .l (.reg .b)
  | .ldLC => .ldReg .l (.reg .c)
  | .ldLD => .ldReg .l (.reg .d)
  | .ldLE => .ldReg .l (.reg .e)
  | .ldLH => .ldReg .l (.reg .h)
  | .ldLL => .ldReg .l (.reg .l)
  | .ldLAtHl => .ldReg .l .atHl
  | .ldLA => .ldReg .l (.reg .a)
  | .ldAtHlB => .ldHlReg .b
  | .ldAtHlC => .ldHlReg .c
  | .ldAtHlD => .ldHlReg .d
  | .ldAtHlE => .ldHlReg .e
  | .ldAtHlH => .ldHlReg .h
  | .ldAtHlL => .ldHlReg .l
  | .halt => .halt
  | .ldAtHlA => .ldHlReg .a
  | .ldAB => .ldReg .a (.reg .b)
  | .ldAC => .ldReg .a (.reg .c)
  | .ldAD => .ldReg .a (.reg .d)
  | .ldAE => .ldReg .a (.reg .e)
  | .ldAH => .ldReg .a (.reg .h)
  | .ldAL => .ldReg .a (.reg .l)
  | .ldAAtHl => .ldReg .a .atHl
  | .ldAA => .ldReg .a (.reg .a)
  | .addAB => .alu .add (.reg .b)
  | .addAC => .alu .add (.reg .c)
  | .addAD => .alu .add (.reg .d)
  | .addAE => .alu .add (.reg .e)
  | .addAH => .alu .add (.reg .h)
  | .addAL => .alu .add (.reg .l)
  | .addAAtHl => .alu .add .atHl
  | .addAA => .alu .add (.reg .a)
  | .adcAB => .alu .adc (.reg .b)
  | .adcAC => .alu .adc (.reg .c)
  | .adcAD => .alu .adc (.reg .d)
  | .adcAE => .alu .adc (.reg .e)
  | .adcAH => .alu .adc (.reg .h)
  | .adcAL => .alu .adc (.reg .l)
  | .adcAAtHl => .alu .adc .atHl
  | .adcAA => .alu .adc (.reg .a)
  | .subAB => .alu .sub (.reg .b)
  | .subAC => .alu .sub (.reg .c)
  | .subAD => .alu .sub (.reg .d)
  | .subAE => .alu .sub (.reg .e)
  | .subAH => .alu .sub (.reg .h)
  | .subAL => .alu .sub (.reg .l)
  | .subAAtHl => .alu .sub .atHl
  | .subAA => .alu .sub (.reg .a)
  | .sbcAB => .alu .sbc (.reg .b)
  | .sbcAC => .alu .sbc (.reg .c)
  | .sbcAD => .alu .sbc (.reg .d)
  | .sbcAE => .alu .sbc (.reg .e)
  | .sbcAH => .alu .sbc (.reg .h)
  | .sbcAL => .alu .sbc (.reg .l)
  | .sbcAAtHl => .alu .sbc .atHl
  | .sbcAA => .alu .sbc (.reg .a)
  | .andAB => .alu .and (.reg .b)
  | .andAC => .alu .and (.reg .c)
  | .andAD => .alu .and (.reg .d)
  | .andAE => .alu .and (.reg .e)
  | .andAH => .alu .and (.reg .h)
  | .andAL => .alu .and (.reg .l)
  | .andAAtHl => .alu .and .atHl
  | .andAA => .alu .and (.reg .a)
  | .xorAB => .alu .xor (.reg .b)
  | .xorAC => .alu .xor (.reg .c)
  | .xorAD => .alu .xor (.reg .d)
  | .xorAE => .alu .xor (.reg .e)
  | .xorAH => .alu .xor (.reg .h)
  | .xorAL => .alu .xor (.reg .l)
  | .xorAAtHl => .alu .xor .atHl
  | .xorAA => .alu .xor (.reg .a)
  | .orAB => .alu .or (.reg .b)
  | .orAC => .alu .or (.reg .c)
  | .orAD => .alu .or (.reg .d)
  | .orAE => .alu .or (.reg .e)
  | .orAH => .alu .or (.reg .h)
  | .orAL => .alu .or (.reg .l)
  | .orAAtHl => .alu .or .atHl
  | .orAA => .alu .or (.reg .a)
  | .cpAB => .alu .cp (.reg .b)
  | .cpAC => .alu .cp (.reg .c)
  | .cpAD => .alu .cp (.reg .d)
  | .cpAE => .alu .cp (.reg .e)
  | .cpAH => .alu .cp (.reg .h)
  | .cpAL => .alu .cp (.reg .l)
  | .cpAAtHl => .alu .cp .atHl
  | .cpAA => .alu .cp (.reg .a)
  | .retNz => .retCond .nz
  | .popBc => .pop .bc
  | .jpNzN16 n => .jpCond .nz n
  | .jpN16 n => .jp n
  | .callNzN16 n => .callCond .nz n
  | .pushBc => .push .bc
  | .addAN8 n => .aluImm .add n
  | .rst00 => .rst 0
  | .retZ => .retCond .z
  | .ret => .ret
  | .jpZN16 n => .jpCond .z n
  | .prefixCb => .prefixCb
  | .callZN16 n => .callCond .z n
  | .callN16 n => .call n
  | .adcAN8 n => .aluImm .adc n
  | .rst08 => .rst 1
  | .retNc => .retCond .nc
  | .popDe => .pop .de
  | .jpNcN16 n => .jpCond .nc n
  | .illegalD3 => .undefined .opD3
  | .callNcN16 n => .callCond .nc n
  | .pushDe => .push .de
  | .subAN8 n => .aluImm .sub n
  | .rst10 => .rst 2
  | .retC => .retCond .c
  | .reti => .reti
  | .jpCN16 n => .jpCond .c n
  | .illegalDB => .undefined .opDB
  | .callCN16 n => .callCond .c n
  | .illegalDD => .undefined .opDD
  | .sbcAN8 n => .aluImm .sbc n
  | .rst18 => .rst 3
  | .ldhAtN8A n => .stA (.page n)
  | .popHl => .pop .hl
  | .ldAtCA => .stA .pageC
  | .illegalE3 => .undefined .opE3
  | .illegalE4 => .undefined .opE4
  | .pushHl => .push .hl
  | .andAN8 n => .aluImm .and n
  | .rst20 => .rst 4
  | .addSpE8 e => .addSp e
  | .jpHl => .jpHl
  | .ldAtN16A n => .stA (.abs n)
  | .illegalEB => .undefined .opEB
  | .illegalEC => .undefined .opEC
  | .illegalED => .undefined .opED
  | .xorAN8 n => .aluImm .xor n
  | .rst28 => .rst 5
  | .ldhAAtN8 n => .ldA (.page n)
  | .popAf => .pop .af
  | .ldAAtC => .ldA .pageC
  | .di => .di
  | .illegalF4 => .undefined .opF4
  | .pushAf => .push .af
  | .orAN8 n => .aluImm .or n
  | .rst30 => .rst 6
  | .ldHlSpE8 e => .ldHlSp e
  | .ldSpHl => .ldSpHl
  | .ldAAtN16 n => .ldA (.abs n)
  | .ei => .ei
  | .illegalFC => .undefined .opFC
  | .illegalFD => .undefined .opFD
  | .cpAN8 n => .aluImm .cp n
  | .rst38 => .rst 7
  | .rlcB => .rot .rlc (.reg .b)
  | .rlcC => .rot .rlc (.reg .c)
  | .rlcD => .rot .rlc (.reg .d)
  | .rlcE => .rot .rlc (.reg .e)
  | .rlcH => .rot .rlc (.reg .h)
  | .rlcL => .rot .rlc (.reg .l)
  | .rlcAtHl => .rot .rlc .atHl
  | .rlcA => .rot .rlc (.reg .a)
  | .rrcB => .rot .rrc (.reg .b)
  | .rrcC => .rot .rrc (.reg .c)
  | .rrcD => .rot .rrc (.reg .d)
  | .rrcE => .rot .rrc (.reg .e)
  | .rrcH => .rot .rrc (.reg .h)
  | .rrcL => .rot .rrc (.reg .l)
  | .rrcAtHl => .rot .rrc .atHl
  | .rrcA => .rot .rrc (.reg .a)
  | .rlB => .rot .rl (.reg .b)
  | .rlC => .rot .rl (.reg .c)
  | .rlD => .rot .rl (.reg .d)
  | .rlE => .rot .rl (.reg .e)
  | .rlH => .rot .rl (.reg .h)
  | .rlL => .rot .rl (.reg .l)
  | .rlAtHl => .rot .rl .atHl
  | .rlA => .rot .rl (.reg .a)
  | .rrB => .rot .rr (.reg .b)
  | .rrC => .rot .rr (.reg .c)
  | .rrD => .rot .rr (.reg .d)
  | .rrE => .rot .rr (.reg .e)
  | .rrH => .rot .rr (.reg .h)
  | .rrL => .rot .rr (.reg .l)
  | .rrAtHl => .rot .rr .atHl
  | .rrA => .rot .rr (.reg .a)
  | .slaB => .rot .sla (.reg .b)
  | .slaC => .rot .sla (.reg .c)
  | .slaD => .rot .sla (.reg .d)
  | .slaE => .rot .sla (.reg .e)
  | .slaH => .rot .sla (.reg .h)
  | .slaL => .rot .sla (.reg .l)
  | .slaAtHl => .rot .sla .atHl
  | .slaA => .rot .sla (.reg .a)
  | .sraB => .rot .sra (.reg .b)
  | .sraC => .rot .sra (.reg .c)
  | .sraD => .rot .sra (.reg .d)
  | .sraE => .rot .sra (.reg .e)
  | .sraH => .rot .sra (.reg .h)
  | .sraL => .rot .sra (.reg .l)
  | .sraAtHl => .rot .sra .atHl
  | .sraA => .rot .sra (.reg .a)
  | .swapB => .rot .swap (.reg .b)
  | .swapC => .rot .swap (.reg .c)
  | .swapD => .rot .swap (.reg .d)
  | .swapE => .rot .swap (.reg .e)
  | .swapH => .rot .swap (.reg .h)
  | .swapL => .rot .swap (.reg .l)
  | .swapAtHl => .rot .swap .atHl
  | .swapA => .rot .swap (.reg .a)
  | .srlB => .rot .srl (.reg .b)
  | .srlC => .rot .srl (.reg .c)
  | .srlD => .rot .srl (.reg .d)
  | .srlE => .rot .srl (.reg .e)
  | .srlH => .rot .srl (.reg .h)
  | .srlL => .rot .srl (.reg .l)
  | .srlAtHl => .rot .srl .atHl
  | .srlA => .rot .srl (.reg .a)
  | .bit0B => .bit 0 (.reg .b)
  | .bit0C => .bit 0 (.reg .c)
  | .bit0D => .bit 0 (.reg .d)
  | .bit0E => .bit 0 (.reg .e)
  | .bit0H => .bit 0 (.reg .h)
  | .bit0L => .bit 0 (.reg .l)
  | .bit0AtHl => .bit 0 .atHl
  | .bit0A => .bit 0 (.reg .a)
  | .bit1B => .bit 1 (.reg .b)
  | .bit1C => .bit 1 (.reg .c)
  | .bit1D => .bit 1 (.reg .d)
  | .bit1E => .bit 1 (.reg .e)
  | .bit1H => .bit 1 (.reg .h)
  | .bit1L => .bit 1 (.reg .l)
  | .bit1AtHl => .bit 1 .atHl
  | .bit1A => .bit 1 (.reg .a)
  | .bit2B => .bit 2 (.reg .b)
  | .bit2C => .bit 2 (.reg .c)
  | .bit2D => .bit 2 (.reg .d)
  | .bit2E => .bit 2 (.reg .e)
  | .bit2H => .bit 2 (.reg .h)
  | .bit2L => .bit 2 (.reg .l)
  | .bit2AtHl => .bit 2 .atHl
  | .bit2A => .bit 2 (.reg .a)
  | .bit3B => .bit 3 (.reg .b)
  | .bit3C => .bit 3 (.reg .c)
  | .bit3D => .bit 3 (.reg .d)
  | .bit3E => .bit 3 (.reg .e)
  | .bit3H => .bit 3 (.reg .h)
  | .bit3L => .bit 3 (.reg .l)
  | .bit3AtHl => .bit 3 .atHl
  | .bit3A => .bit 3 (.reg .a)
  | .bit4B => .bit 4 (.reg .b)
  | .bit4C => .bit 4 (.reg .c)
  | .bit4D => .bit 4 (.reg .d)
  | .bit4E => .bit 4 (.reg .e)
  | .bit4H => .bit 4 (.reg .h)
  | .bit4L => .bit 4 (.reg .l)
  | .bit4AtHl => .bit 4 .atHl
  | .bit4A => .bit 4 (.reg .a)
  | .bit5B => .bit 5 (.reg .b)
  | .bit5C => .bit 5 (.reg .c)
  | .bit5D => .bit 5 (.reg .d)
  | .bit5E => .bit 5 (.reg .e)
  | .bit5H => .bit 5 (.reg .h)
  | .bit5L => .bit 5 (.reg .l)
  | .bit5AtHl => .bit 5 .atHl
  | .bit5A => .bit 5 (.reg .a)
  | .bit6B => .bit 6 (.reg .b)
  | .bit6C => .bit 6 (.reg .c)
  | .bit6D => .bit 6 (.reg .d)
  | .bit6E => .bit 6 (.reg .e)
  | .bit6H => .bit 6 (.reg .h)
  | .bit6L => .bit 6 (.reg .l)
  | .bit6AtHl => .bit 6 .atHl
  | .bit6A => .bit 6 (.reg .a)
  | .bit7B => .bit 7 (.reg .b)
  | .bit7C => .bit 7 (.reg .c)
  | .bit7D => .bit 7 (.reg .d)
  | .bit7E => .bit 7 (.reg .e)
  | .bit7H => .bit 7 (.reg .h)
  | .bit7L => .bit 7 (.reg .l)
  | .bit7AtHl => .bit 7 .atHl
  | .bit7A => .bit 7 (.reg .a)
  | .res0B => .res 0 (.reg .b)
  | .res0C => .res 0 (.reg .c)
  | .res0D => .res 0 (.reg .d)
  | .res0E => .res 0 (.reg .e)
  | .res0H => .res 0 (.reg .h)
  | .res0L => .res 0 (.reg .l)
  | .res0AtHl => .res 0 .atHl
  | .res0A => .res 0 (.reg .a)
  | .res1B => .res 1 (.reg .b)
  | .res1C => .res 1 (.reg .c)
  | .res1D => .res 1 (.reg .d)
  | .res1E => .res 1 (.reg .e)
  | .res1H => .res 1 (.reg .h)
  | .res1L => .res 1 (.reg .l)
  | .res1AtHl => .res 1 .atHl
  | .res1A => .res 1 (.reg .a)
  | .res2B => .res 2 (.reg .b)
  | .res2C => .res 2 (.reg .c)
  | .res2D => .res 2 (.reg .d)
  | .res2E => .res 2 (.reg .e)
  | .res2H => .res 2 (.reg .h)
  | .res2L => .res 2 (.reg .l)
  | .res2AtHl => .res 2 .atHl
  | .res2A => .res 2 (.reg .a)
  | .res3B => .res 3 (.reg .b)
  | .res3C => .res 3 (.reg .c)
  | .res3D => .res 3 (.reg .d)
  | .res3E => .res 3 (.reg .e)
  | .res3H => .res 3 (.reg .h)
  | .res3L => .res 3 (.reg .l)
  | .res3AtHl => .res 3 .atHl
  | .res3A => .res 3 (.reg .a)
  | .res4B => .res 4 (.reg .b)
  | .res4C => .res 4 (.reg .c)
  | .res4D => .res 4 (.reg .d)
  | .res4E => .res 4 (.reg .e)
  | .res4H => .res 4 (.reg .h)
  | .res4L => .res 4 (.reg .l)
  | .res4AtHl => .res 4 .atHl
  | .res4A => .res 4 (.reg .a)
  | .res5B => .res 5 (.reg .b)
  | .res5C => .res 5 (.reg .c)
  | .res5D => .res 5 (.reg .d)
  | .res5E => .res 5 (.reg .e)
  | .res5H => .res 5 (.reg .h)
  | .res5L => .res 5 (.reg .l)
  | .res5AtHl => .res 5 .atHl
  | .res5A => .res 5 (.reg .a)
  | .res6B => .res 6 (.reg .b)
  | .res6C => .res 6 (.reg .c)
  | .res6D => .res 6 (.reg .d)
  | .res6E => .res 6 (.reg .e)
  | .res6H => .res 6 (.reg .h)
  | .res6L => .res 6 (.reg .l)
  | .res6AtHl => .res 6 .atHl
  | .res6A => .res 6 (.reg .a)
  | .res7B => .res 7 (.reg .b)
  | .res7C => .res 7 (.reg .c)
  | .res7D => .res 7 (.reg .d)
  | .res7E => .res 7 (.reg .e)
  | .res7H => .res 7 (.reg .h)
  | .res7L => .res 7 (.reg .l)
  | .res7AtHl => .res 7 .atHl
  | .res7A => .res 7 (.reg .a)
  | .set0B => .set 0 (.reg .b)
  | .set0C => .set 0 (.reg .c)
  | .set0D => .set 0 (.reg .d)
  | .set0E => .set 0 (.reg .e)
  | .set0H => .set 0 (.reg .h)
  | .set0L => .set 0 (.reg .l)
  | .set0AtHl => .set 0 .atHl
  | .set0A => .set 0 (.reg .a)
  | .set1B => .set 1 (.reg .b)
  | .set1C => .set 1 (.reg .c)
  | .set1D => .set 1 (.reg .d)
  | .set1E => .set 1 (.reg .e)
  | .set1H => .set 1 (.reg .h)
  | .set1L => .set 1 (.reg .l)
  | .set1AtHl => .set 1 .atHl
  | .set1A => .set 1 (.reg .a)
  | .set2B => .set 2 (.reg .b)
  | .set2C => .set 2 (.reg .c)
  | .set2D => .set 2 (.reg .d)
  | .set2E => .set 2 (.reg .e)
  | .set2H => .set 2 (.reg .h)
  | .set2L => .set 2 (.reg .l)
  | .set2AtHl => .set 2 .atHl
  | .set2A => .set 2 (.reg .a)
  | .set3B => .set 3 (.reg .b)
  | .set3C => .set 3 (.reg .c)
  | .set3D => .set 3 (.reg .d)
  | .set3E => .set 3 (.reg .e)
  | .set3H => .set 3 (.reg .h)
  | .set3L => .set 3 (.reg .l)
  | .set3AtHl => .set 3 .atHl
  | .set3A => .set 3 (.reg .a)
  | .set4B => .set 4 (.reg .b)
  | .set4C => .set 4 (.reg .c)
  | .set4D => .set 4 (.reg .d)
  | .set4E => .set 4 (.reg .e)
  | .set4H => .set 4 (.reg .h)
  | .set4L => .set 4 (.reg .l)
  | .set4AtHl => .set 4 .atHl
  | .set4A => .set 4 (.reg .a)
  | .set5B => .set 5 (.reg .b)
  | .set5C => .set 5 (.reg .c)
  | .set5D => .set 5 (.reg .d)
  | .set5E => .set 5 (.reg .e)
  | .set5H => .set 5 (.reg .h)
  | .set5L => .set 5 (.reg .l)
  | .set5AtHl => .set 5 .atHl
  | .set5A => .set 5 (.reg .a)
  | .set6B => .set 6 (.reg .b)
  | .set6C => .set 6 (.reg .c)
  | .set6D => .set 6 (.reg .d)
  | .set6E => .set 6 (.reg .e)
  | .set6H => .set 6 (.reg .h)
  | .set6L => .set 6 (.reg .l)
  | .set6AtHl => .set 6 .atHl
  | .set6A => .set 6 (.reg .a)
  | .set7B => .set 7 (.reg .b)
  | .set7C => .set 7 (.reg .c)
  | .set7D => .set 7 (.reg .d)
  | .set7E => .set 7 (.reg .e)
  | .set7H => .set 7 (.reg .h)
  | .set7L => .set 7 (.reg .l)
  | .set7AtHl => .set 7 .atHl
  | .set7A => .set 7 (.reg .a)

theorem Form.instr_formOf (i : Instr) : (formOf i).instr = i := by cases i <;> rfl

/-- Every instruction has a form. -/
theorem Form.cover (i : Instr) : ∃ f : Form, f.instr = i := ⟨formOf i, Form.instr_formOf i⟩

/-- Everything a meaning does. -/
theorem exec_form (f : Form) (s : State) : exec f.instr s = .next (f.run s) := by
  cases f with
  | alu op o => cases op <;> rcases o with (_ | _ | _ | _ | _ | _ | _) | _ <;> rfl
  | aluImm op n => cases op <;> rfl
  | inc o => rcases o with (_ | _ | _ | _ | _ | _ | _) | _ <;> rfl
  | dec o => rcases o with (_ | _ | _ | _ | _ | _ | _) | _ <;> rfl
  | daa => rfl
  | cpl => rfl
  | scf => rfl
  | ccf => rfl
  | addHl p => cases p <;> rfl
  | incPair p => cases p <;> rfl
  | decPair p => cases p <;> rfl
  | addSp e => rfl
  | ldHlSp e => rfl
  | rotA op => cases op <;> rfl
  | rot op o => cases op <;> rcases o with (_ | _ | _ | _ | _ | _ | _) | _ <;> rfl
  | bit b o => fin_cases b <;> rcases o with (_ | _ | _ | _ | _ | _ | _) | _ <;> rfl
  | res b o => fin_cases b <;> rcases o with (_ | _ | _ | _ | _ | _ | _) | _ <;> rfl
  | set b o => fin_cases b <;> rcases o with (_ | _ | _ | _ | _ | _ | _) | _ <;> rfl
  | jp n => rfl
  | jpCond cc n => cases cc <;> rfl
  | jpHl => rfl
  | jr e => rfl
  | jrCond cc e => cases cc <;> rfl
  | call n => rfl
  | callCond cc n => cases cc <;> rfl
  | ret => rfl
  | retCond cc => cases cc <;> rfl
  | rst y => fin_cases y <;> rfl
  | reti => rfl
  | push p => cases p <;> rfl
  | pop p => cases p <;> rfl
  | ldReg r o => cases r <;> rcases o with (_ | _ | _ | _ | _ | _ | _) | _ <;> rfl
  | ldHlReg r => cases r <;> rfl
  | ldImm o n => rcases o with (_ | _ | _ | _ | _ | _ | _) | _ <;> rfl
  | ldA x => cases x <;> rfl
  | stA x => cases x <;> rfl
  | ldAHl up => cases up <;> rfl
  | stAHl up => cases up <;> rfl
  | ldPair p n => cases p <;> rfl
  | stSp n => rfl
  | ldSpHl => rfl
  | nop => rfl
  | halt => rfl
  | stop n => rfl
  | di => rfl
  | ei => rfl
  | prefixCb => rfl
  | undefined u => cases u <;> rfl

/-- Everything the encoder does. -/
theorem encode_form (f : Form) : encode f.instr = f.bytes := by
  cases f with
  | alu op o => cases op <;> rcases o with (_ | _ | _ | _ | _ | _ | _) | _ <;> rfl
  | aluImm op n => cases op <;> rfl
  | inc o => rcases o with (_ | _ | _ | _ | _ | _ | _) | _ <;> rfl
  | dec o => rcases o with (_ | _ | _ | _ | _ | _ | _) | _ <;> rfl
  | daa => rfl
  | cpl => rfl
  | scf => rfl
  | ccf => rfl
  | addHl p => cases p <;> rfl
  | incPair p => cases p <;> rfl
  | decPair p => cases p <;> rfl
  | addSp e => rfl
  | ldHlSp e => rfl
  | rotA op => cases op <;> rfl
  | rot op o => cases op <;> rcases o with (_ | _ | _ | _ | _ | _ | _) | _ <;> rfl
  | bit b o => fin_cases b <;> rcases o with (_ | _ | _ | _ | _ | _ | _) | _ <;> rfl
  | res b o => fin_cases b <;> rcases o with (_ | _ | _ | _ | _ | _ | _) | _ <;> rfl
  | set b o => fin_cases b <;> rcases o with (_ | _ | _ | _ | _ | _ | _) | _ <;> rfl
  | jp n => rfl
  | jpCond cc n => cases cc <;> rfl
  | jpHl => rfl
  | jr e => rfl
  | jrCond cc e => cases cc <;> rfl
  | call n => rfl
  | callCond cc n => cases cc <;> rfl
  | ret => rfl
  | retCond cc => cases cc <;> rfl
  | rst y => fin_cases y <;> rfl
  | reti => rfl
  | push p => cases p <;> rfl
  | pop p => cases p <;> rfl
  | ldReg r o => cases r <;> rcases o with (_ | _ | _ | _ | _ | _ | _) | _ <;> rfl
  | ldHlReg r => cases r <;> rfl
  | ldImm o n => rcases o with (_ | _ | _ | _ | _ | _ | _) | _ <;> rfl
  | ldA x => cases x <;> rfl
  | stA x => cases x <;> rfl
  | ldAHl up => cases up <;> rfl
  | stAHl up => cases up <;> rfl
  | ldPair p n => cases p <;> rfl
  | stSp n => rfl
  | ldSpHl => rfl
  | nop => rfl
  | halt => rfl
  | stop n => rfl
  | di => rfl
  | ei => rfl
  | prefixCb => rfl
  | undefined u => cases u <;> rfl

/-- Everything the cost table does. -/
theorem cycles_form (f : Form) (s : State) : cycles f.instr s = f.cost s := by
  cases f with
  | alu op o => cases op <;> rcases o with (_ | _ | _ | _ | _ | _ | _) | _ <;> rfl
  | aluImm op n => cases op <;> rfl
  | inc o => rcases o with (_ | _ | _ | _ | _ | _ | _) | _ <;> rfl
  | dec o => rcases o with (_ | _ | _ | _ | _ | _ | _) | _ <;> rfl
  | daa => rfl
  | cpl => rfl
  | scf => rfl
  | ccf => rfl
  | addHl p => cases p <;> rfl
  | incPair p => cases p <;> rfl
  | decPair p => cases p <;> rfl
  | addSp e => rfl
  | ldHlSp e => rfl
  | rotA op => cases op <;> rfl
  | rot op o => cases op <;> rcases o with (_ | _ | _ | _ | _ | _ | _) | _ <;> rfl
  | bit b o => fin_cases b <;> rcases o with (_ | _ | _ | _ | _ | _ | _) | _ <;> rfl
  | res b o => fin_cases b <;> rcases o with (_ | _ | _ | _ | _ | _ | _) | _ <;> rfl
  | set b o => fin_cases b <;> rcases o with (_ | _ | _ | _ | _ | _ | _) | _ <;> rfl
  | jp n => rfl
  | jpCond cc n => cases cc <;> rfl
  | jpHl => rfl
  | jr e => rfl
  | jrCond cc e => cases cc <;> rfl
  | call n => rfl
  | callCond cc n => cases cc <;> rfl
  | ret => rfl
  | retCond cc => cases cc <;> rfl
  | rst y => fin_cases y <;> rfl
  | reti => rfl
  | push p => cases p <;> rfl
  | pop p => cases p <;> rfl
  | ldReg r o => cases r <;> rcases o with (_ | _ | _ | _ | _ | _ | _) | _ <;> rfl
  | ldHlReg r => cases r <;> rfl
  | ldImm o n => rcases o with (_ | _ | _ | _ | _ | _ | _) | _ <;> rfl
  | ldA x => cases x <;> rfl
  | stA x => cases x <;> rfl
  | ldAHl up => cases up <;> rfl
  | stAHl up => cases up <;> rfl
  | ldPair p n => cases p <;> rfl
  | stSp n => rfl
  | ldSpHl => rfl
  | nop => rfl
  | halt => rfl
  | stop n => rfl
  | di => rfl
  | ei => rfl
  | prefixCb => rfl
  | undefined u => cases u <;> rfl

/-- Everything `storeAddrs` does. -/
theorem stores_form (f : Form) (s : State) : storeAddrs f.instr s = f.stores s := by
  cases f with
  | alu op o => cases op <;> rcases o with (_ | _ | _ | _ | _ | _ | _) | _ <;> rfl
  | aluImm op n => cases op <;> rfl
  | inc o => rcases o with (_ | _ | _ | _ | _ | _ | _) | _ <;> rfl
  | dec o => rcases o with (_ | _ | _ | _ | _ | _ | _) | _ <;> rfl
  | daa => rfl
  | cpl => rfl
  | scf => rfl
  | ccf => rfl
  | addHl p => cases p <;> rfl
  | incPair p => cases p <;> rfl
  | decPair p => cases p <;> rfl
  | addSp e => rfl
  | ldHlSp e => rfl
  | rotA op => cases op <;> rfl
  | rot op o => cases op <;> rcases o with (_ | _ | _ | _ | _ | _ | _) | _ <;> rfl
  | bit b o => fin_cases b <;> rcases o with (_ | _ | _ | _ | _ | _ | _) | _ <;> rfl
  | res b o => fin_cases b <;> rcases o with (_ | _ | _ | _ | _ | _ | _) | _ <;> rfl
  | set b o => fin_cases b <;> rcases o with (_ | _ | _ | _ | _ | _ | _) | _ <;> rfl
  | jp n => rfl
  | jpCond cc n => cases cc <;> rfl
  | jpHl => rfl
  | jr e => rfl
  | jrCond cc e => cases cc <;> rfl
  | call n => rfl
  | callCond cc n => cases cc <;> rfl
  | ret => rfl
  | retCond cc => cases cc <;> rfl
  | rst y => fin_cases y <;> rfl
  | reti => rfl
  | push p => cases p <;> rfl
  | pop p => cases p <;> rfl
  | ldReg r o => cases r <;> rcases o with (_ | _ | _ | _ | _ | _ | _) | _ <;> rfl
  | ldHlReg r => cases r <;> rfl
  | ldImm o n => rcases o with (_ | _ | _ | _ | _ | _ | _) | _ <;> rfl
  | ldA x => cases x <;> rfl
  | stA x => cases x <;> rfl
  | ldAHl up => cases up <;> rfl
  | stAHl up => cases up <;> rfl
  | ldPair p n => cases p <;> rfl
  | stSp n => rfl
  | ldSpHl => rfl
  | nop => rfl
  | halt => rfl
  | stop n => rfl
  | di => rfl
  | ei => rfl
  | prefixCb => rfl
  | undefined u => cases u <;> rfl

end Sys2Proof.Machine
end

