-- ==== Sys2Proof/Laws/Launch.lean ====
section
/-! SUPPORT. The laws of launching: which launches are declined for a failed load, which variant a header type selects,
and what the state a launch starts from holds. -/

namespace Sys2Proof.Machine

/-- A launch with an image that could not be loaded is declined, whatever else it brings. -/
theorem launch_loadFailed {i : LaunchInput} (h : loadFailed i = true) : launch i = .refused .loadFailure := if_pos h

/-- The header type selects a variant exactly up to 3. -/
theorem mbcKindOf_eq (multicart : Bool) (t : Byte) :
    mbcKindOf multicart t
      = if t.toNat > 3 then none
        else some (if t.toNat = 0 then .noMbc else if multicart then .mbc1Multicart else .mbc1) := by
  revert t
  cases multicart <;> decide

/-- What every launch state holds, whichever mode it starts from. -/
theorem launchState_keeps (boot rom : Memory 8) (n : Nat) (k : MbcKind) (p : Params) :
    (launchState boot rom n k p).arrays = (State.powerOn boot rom n k p).arrays ∧
    (launchState boot rom n k p).ppu = (State.powerOn boot rom n k p).ppu ∧
    (launchState boot rom n k p).mbc = (State.powerOn boot rom n k p).mbc ∧
    (launchState boot rom n k p).params = p := by
  unfold launchState
  split <;> exact ⟨rfl, rfl, rfl, rfl⟩

/-- The cartridge image of the state a launch starts from. -/
theorem launched_rom (rom : List Byte) (kind : MbcKind) (i : LaunchInput) (k : Nat) :
    Memory.read (launched rom kind i).arrays.rom k = rom.getD k 0#8 := by
  unfold launched
  rw [(launchState_keeps _ _ _ _ _).1]
  exact Memory.read_ofList rom k

/-- Its boot ROM: the bytes brought, as far as the array goes. -/
theorem launched_bootrom (rom : List Byte) (kind : MbcKind) (i : LaunchInput) (k : Nat) :
    Memory.read (launched rom kind i).arrays.bootrom k = if k < 256 then i.bootRom.bytes.getD k 0#8 else 0#8 := by
  unfold launched
  rw [(launchState_keeps _ _ _ _ _).1]
  refine (Memory.read_ofList _ k).trans ?_
  simp only [List.getD_eq_getElem?_getD, List.getElem?_take]
  split <;> rfl

/-- Its memory is canonical. -/
theorem launched_canonical (rom : List Byte) (kind : MbcKind) (i : LaunchInput) :
    (launched rom kind i).MemoryCanonical := by
  have h := powerOn_canonical (Memory.ofList (i.bootRom.bytes.take 256)) (Memory.ofList rom) rom.length kind i.params
    (Memory.wf_ofList _ _ (List.length_take_le _ _)) (Memory.wf_ofList _ _ (Nat.le_refl _))
  obtain ⟨ha, hp, -, -⟩ := launchState_keeps (Memory.ofList (i.bootRom.bytes.take 256)) (Memory.ofList rom) rom.length
    kind i.params
  exact MemoryCanonical_congr ha (congrArg Ppu.fb hp) h

end Sys2Proof.Machine
end

