-- ==== Sys2Proof/Laws/Ops.lean ====
section
/-! SUPPORT. Everything the shared operations over registers, memory and the stack can do, and what every instruction
keeps because they all are built from them. -/

namespace Sys2Proof.Machine

/-! ### Words and the stack -/

/-- A word store computed on a state whose processor is another one is the store, with that processor. -/
theorem write16_cpu_with (a v : Word) (s : State) (c : Cpu) :
    write16 a v { s with cpu := c } = { write16 a v s with cpu := c } := by
  unfold write16
  rw [write8_cpu_with a (loByte v) s c, write8_cpu_with]

@[simp] theorem write16_cpu (a v : Word) (s : State) : (write16 a v s).cpu = s.cpu := by simp [write16]

/-- A push is a word store below the stack, and SP 2 lower. -/
theorem push16_eq (v : Word) (s : State) :
    push16 v s = { write16 (s.cpu.sp - 2#16) v s with cpu := { s.cpu with sp := s.cpu.sp - 2#16 } } := by
  unfold push16 setSp
  rw [write16_cpu_with]

/-- A push is a byte store at SP - 2 and then one at SP - 1. -/
theorem push16_bytes (v : Word) (s : State) :
    push16 v s = write8 (s.cpu.sp - 1#16) (hiByte v) (write8 (s.cpu.sp - 2#16) (loByte v)
      { s with cpu := { s.cpu with sp := s.cpu.sp - 2#16 } }) := by
  unfold push16 write16 setSp
  rw [show s.cpu.sp - 2#16 + 1#16 = s.cpu.sp - 1#16 by bv_omega]

@[simp] theorem push16_cpu (v : Word) (s : State) : (push16 v s).cpu = { s.cpu with sp := s.cpu.sp - 2#16 } := by
  rw [push16_eq]

/-- The processor after an interrupt was taken. -/
@[simp] theorem takeInterrupt_cpu (k : IrqSource) (s : State) :
    (takeInterrupt k s).cpu = { s.cpu with ime := false, sp := s.cpu.sp - 2#16, pc := k.vector } := by
  simp [takeInterrupt, setPc, setIme]

/-- The processor after a call. -/
@[simp] theorem callTo_cpu (t : Word) (s : State) :
    (callTo t s).cpu = { s.cpu with sp := s.cpu.sp - 2#16, pc := t } := by
  simp [callTo, setPc]

/-! ### Operands -/

@[simp] theorem writeOperand_reg (r : Reg8) (v : Byte) (s : State) : writeOperand (.reg r) v s = setReg r v s := rfl
@[simp] theorem writeOperand_atHl (v : Byte) (s : State) : writeOperand .atHl v s = write8 (getHl s) v s := rfl
@[simp] theorem readOperand_reg (r : Reg8) (s : State) : readOperand (.reg r) s = getReg r s := rfl
@[simp] theorem readOperand_atHl (s : State) : readOperand .atHl s = read8 (getHl s) s := rfl

/-! ### What is kept by everything built from the operations -/

/-- A property that every update a meaning makes keeps. -/
structure Kept (P : State → Prop) : Prop where
  setReg : ∀ r v s, P s → P (setReg r v s)
  setFlags : ∀ f s, P s → P (setFlags f s)
  setPc : ∀ v s, P s → P (setPc v s)
  setSp : ∀ v s, P s → P (setSp v s)
  setPair : ∀ p v s, P s → P (setPair p v s)
  setStackPair : ∀ p v s, P s → P (setStackPair p v s)
  setIme : ∀ v s, P s → P (setIme v s)
  setRunState : ∀ v s, P s → P (setRunState v s)
  setEiPending : ∀ s, P s → P (setEiPending s)
  raiseFault : ∀ f s, P s → P (raiseFault f s)
  write8 : ∀ a v s, P s → P (write8 a v s)

variable {P : State → Prop}

/-- A property of what lies outside the processor is kept as soon as stores keep it. -/
theorem Kept.ofMemory (hc : ∀ s c, P s → P { s with cpu := c }) (hw : ∀ a v s, P s → P (Machine.write8 a v s)) :
    Kept P where
  setReg r v s h := by cases r <;> exact hc s _ h
  setFlags f s h := hc s _ h
  setPc v s h := hc s _ h
  setSp v s h := hc s _ h
  setPair p v s h := by cases p <;> exact hc s _ h
  setStackPair p v s h := by cases p <;> exact hc s _ h
  setIme v s h := hc s _ h
  setRunState v s h := hc s _ h
  setEiPending s h := hc s _ h
  raiseFault f s h := hc s _ h
  write8 := hw

theorem Kept.write16 (k : Kept P) (a v : Word) (s : State) (h : P s) : P (Machine.write16 a v s) :=
  k.write8 _ _ _ (k.write8 _ _ _ h)

theorem Kept.push16 (k : Kept P) (v : Word) (s : State) (h : P s) : P (Machine.push16 v s) :=
  k.write16 _ _ _ (k.setSp _ _ h)

theorem Kept.writeOperand (k : Kept P) (o : Operand8) (v : Byte) (s : State) (h : P s) :
    P (Machine.writeOperand o v s) := by
  cases o with
  | reg r => exact k.setReg _ _ _ h
  | atHl => exact k.write8 _ _ _ h

theorem Kept.aluValue (k : Kept P) (op : AluOp) (v : Byte) (s : State) (h : P s) : P (Machine.aluValue op v s) := by
  cases op <;> first | exact k.setFlags _ _ (k.setReg _ _ _ h) | exact k.setFlags _ _ h

theorem Kept.whenCond (cc : Cond) (e : State → State) (s : State) (h : P s) (he : P (e s)) :
    P (Machine.whenCond cc e s) := by
  unfold Machine.whenCond; split
  · exact he
  · exact h

theorem Kept.callTo (k : Kept P) (t : Word) (s : State) (h : P s) : P (Machine.callTo t s) :=
  k.setPc _ _ (k.push16 _ _ h)

theorem Kept.cbEffect (k : Kept P) (op2 : Byte) (s : State) (h : P s) : P (Machine.cbEffect op2 s) := by
  unfold Machine.cbEffect
  split
  · exact k.setFlags _ _ (k.writeOperand _ _ _ h)
  · exact k.setFlags _ _ h
  · exact k.writeOperand _ _ _ h
  · exact k.writeOperand _ _ _ h

/-- Every form keeps a kept property. -/
theorem Kept.run (k : Kept P) (f : Form) (s : State) (h : P s) : P (f.run s) := by
  cases f <;> simp only [Form.run]
  case alu => exact k.aluValue _ _ _ h
  case aluImm => exact k.aluValue _ _ _ h
  case inc => exact k.setFlags _ _ (k.writeOperand _ _ _ h)
  case dec => exact k.setFlags _ _ (k.writeOperand _ _ _ h)
  case daa => exact k.setFlags _ _ (k.setReg _ _ _ h)
  case cpl => exact k.setFlags _ _ (k.setReg _ _ _ h)
  case scf => exact k.setFlags _ _ h
  case ccf => exact k.setFlags _ _ h
  case addHl => exact k.setFlags _ _ (k.setPair _ _ _ h)
  case incPair => exact k.setPair _ _ _ h
  case decPair => exact k.setPair _ _ _ h
  case addSp => exact k.setFlags _ _ (k.setSp _ _ h)
  case ldHlSp => exact k.setFlags _ _ (k.setPair _ _ _ h)
  case rotA => exact k.setFlags _ _ (k.setReg _ _ _ h)
  case rot => exact k.setFlags _ _ (k.writeOperand _ _ _ h)
  case bit => exact k.setFlags _ _ h
  case res => exact k.writeOperand _ _ _ h
  case set => exact k.writeOperand _ _ _ h
  case jp => exact k.setPc _ _ h
  case jpCond => exact Kept.whenCond _ _ _ h (k.setPc _ _ h)
  case jpHl => exact k.setPc _ _ h
  case jr => exact k.setPc _ _ h
  case jrCond => exact Kept.whenCond _ _ _ h (k.setPc _ _ h)
  case call => exact k.callTo _ _ h
  case callCond => exact Kept.whenCond _ _ _ h (k.callTo _ _ h)
  case ret => exact k.setPc _ _ (k.setSp _ _ h)
  case retCond => exact Kept.whenCond _ _ _ h (k.setPc _ _ (k.setSp _ _ h))
  case rst => exact k.callTo _ _ h
  case reti => exact k.setIme _ _ (k.setPc _ _ (k.setSp _ _ h))
  case push => exact k.push16 _ _ h
  case pop => exact k.setStackPair _ _ _ (k.setSp _ _ h)
  case ldReg => exact k.writeOperand _ _ _ h
  case ldHlReg => exact k.writeOperand _ _ _ h
  case ldImm => exact k.writeOperand _ _ _ h
  case ldA => exact k.setReg _ _ _ h
  case stA => exact k.write8 _ _ _ h
  case ldAHl => exact k.setPair _ _ _ (k.setReg _ _ _ h)
  case stAHl => exact k.setPair _ _ _ (k.write8 _ _ _ h)
  case ldPair => exact k.setPair _ _ _ h
  case stSp => exact k.write16 _ _ _ h
  case ldSpHl => exact k.setSp _ _ h
  case nop => exact h
  case halt => exact k.setRunState _ _ h
  case stop => exact k.setRunState _ _ h
  case di => exact k.setIme _ _ h
  case ei => exact k.setEiPending _ h
  case prefixCb => exact k.cbEffect _ _ (k.setPc _ _ h)
  case undefined => exact k.raiseFault _ _ h

/-- Every instruction keeps a kept property. -/
theorem Kept.exec (k : Kept P) (i : Instr) (s t : State) (h : P s) (hx : exec i s = .next t) : P t := by
  obtain ⟨f, rfl⟩ := Form.cover i
  rw [exec_form, Host.Outcome.next.injEq] at hx
  exact hx ▸ k.run f s h

/-- The canonical form is kept. -/
theorem kept_canonical : Kept State.MemoryCanonical :=
  Kept.ofMemory (fun _ _ h => MemoryCanonical_congr rfl rfl h) write8_canonical

end Sys2Proof.Machine
end

