-- ==== Sys2Proof/Laws/PerInstr.lean ====
section
/-! SUPPORT. The per-instruction family `EncodedLength`: an instruction's encoding has the length that its first byte
fixes (30_encoding.md R301, R313), one lemma per constructor. -/

/-- The encoding of `i` is not empty, has at most 3 bytes, and, where `i` is complete, has the length that its first byte
fixes. -/
def Sys2Proof.Laws.EncodedLength.Statement (i : Sys2Proof.Instr) : Prop :=
  1 ≤ (Sys2Proof.encode i).length ∧ (Sys2Proof.encode i).length ≤ 3 ∧
  (i.WellFormed → (Sys2Proof.encode i).length = Sys2Proof.lengthOf ((Sys2Proof.encode i).headD 0#8))

namespace Sys2Proof.Laws.EncodedLength

theorem lengthBounds (k : Fin 3) : 1 ≤ k.val + 1 ∧ k.val + 1 ≤ 3 := by omega

theorem ofBytes {i : Instr} {tail : List Byte} (op : Byte) (k : Fin 3) (h : encode i = op :: tail)
    (ht : tail.length = k.val) (hl : lengthOf op = k.val + 1) : Statement i := by
  unfold Statement
  rw [h, List.length_cons, ht, List.headD_cons, hl]
  exact ⟨(lengthBounds k).1, (lengthBounds k).2, fun _ => rfl⟩

theorem nop : Statement .nop := ofBytes 0x00#8 0 rfl rfl rfl
theorem ldBcN16 (n : Word) : Statement (.ldBcN16 n) := ofBytes 0x01#8 2 rfl rfl rfl
theorem ldAtBcA : Statement .ldAtBcA := ofBytes 0x02#8 0 rfl rfl rfl
theorem incBc : Statement .incBc := ofBytes 0x03#8 0 rfl rfl rfl
theorem incB : Statement .incB := ofBytes 0x04#8 0 rfl rfl rfl
theorem decB : Statement .decB := ofBytes 0x05#8 0 rfl rfl rfl
theorem ldBN8 (n : Byte) : Statement (.ldBN8 n) := ofBytes 0x06#8 1 rfl rfl rfl
theorem rlca : Statement .rlca := ofBytes 0x07#8 0 rfl rfl rfl
theorem ldAtN16Sp (n : Word) : Statement (.ldAtN16Sp n) := ofBytes 0x08#8 2 rfl rfl rfl
theorem addHlBc : Statement .addHlBc := ofBytes 0x09#8 0 rfl rfl rfl
theorem ldAAtBc : Statement .ldAAtBc := ofBytes 0x0A#8 0 rfl rfl rfl
theorem decBc : Statement .decBc := ofBytes 0x0B#8 0 rfl rfl rfl
theorem incC : Statement .incC := ofBytes 0x0C#8 0 rfl rfl rfl
theorem decC : Statement .decC := ofBytes 0x0D#8 0 rfl rfl rfl
theorem ldCN8 (n : Byte) : Statement (.ldCN8 n) := ofBytes 0x0E#8 1 rfl rfl rfl
theorem rrca : Statement .rrca := ofBytes 0x0F#8 0 rfl rfl rfl
theorem stop (n : Byte) : Statement (.stop n) := ofBytes 0x10#8 1 rfl rfl rfl
theorem ldDeN16 (n : Word) : Statement (.ldDeN16 n) := ofBytes 0x11#8 2 rfl rfl rfl
theorem ldAtDeA : Statement .ldAtDeA := ofBytes 0x12#8 0 rfl rfl rfl
theorem incDe : Statement .incDe := ofBytes 0x13#8 0 rfl rfl rfl
theorem incD : Statement .incD := ofBytes 0x14#8 0 rfl rfl rfl
theorem decD : Statement .decD := ofBytes 0x15#8 0 rfl rfl rfl
theorem ldDN8 (n : Byte) : Statement (.ldDN8 n) := ofBytes 0x16#8 1 rfl rfl rfl
theorem rla : Statement .rla := ofBytes 0x17#8 0 rfl rfl rfl
theorem jrE8 (e : Byte) : Statement (.jrE8 e) := ofBytes 0x18#8 1 rfl rfl rfl
theorem addHlDe : Statement .addHlDe := ofBytes 0x19#8 0 rfl rfl rfl
theorem ldAAtDe : Statement .ldAAtDe := ofBytes 0x1A#8 0 rfl rfl rfl
theorem decDe : Statement .decDe := ofBytes 0x1B#8 0 rfl rfl rfl
theorem incE : Statement .incE := ofBytes 0x1C#8 0 rfl rfl rfl
theorem decE : Statement .decE := ofBytes 0x1D#8 0 rfl rfl rfl
theorem ldEN8 (n : Byte) : Statement (.ldEN8 n) := ofBytes 0x1E#8 1 rfl rfl rfl
theorem rra : Statement .rra := ofBytes 0x1F#8 0 rfl rfl rfl
theorem jrNzE8 (e : Byte) : Statement (.jrNzE8 e) := ofBytes 0x20#8 1 rfl rfl rfl
theorem ldHlN16 (n : Word) : Statement (.ldHlN16 n) := ofBytes 0x21#8 2 rfl rfl rfl
theorem ldAtHlIncA : Statement .ldAtHlIncA := ofBytes 0x22#8 0 rfl rfl rfl
theorem incHl : Statement .incHl := ofBytes 0x23#8 0 rfl rfl rfl
theorem incH : Statement .incH := ofBytes 0x24#8 0 rfl rfl rfl
theorem decH : Statement .decH := ofBytes 0x25#8 0 rfl rfl rfl
theorem ldHN8 (n : Byte) : Statement (.ldHN8 n) := ofBytes 0x26#8 1 rfl rfl rfl
theorem daa : Statement .daa := ofBytes 0x27#8 0 rfl rfl rfl
theorem jrZE8 (e : Byte) : Statement (.jrZE8 e) := ofBytes 0x28#8 1 rfl rfl rfl
theorem addHlHl : Statement .addHlHl := ofBytes 0x29#8 0 rfl rfl rfl
theorem ldAAtHlInc : Statement .ldAAtHlInc := ofBytes 0x2A#8 0 rfl rfl rfl
theorem decHl : Statement .decHl := ofBytes 0x2B#8 0 rfl rfl rfl
theorem incL : Statement .incL := ofBytes 0x2C#8 0 rfl rfl rfl
theorem decL : Statement .decL := ofBytes 0x2D#8 0 rfl rfl rfl
theorem ldLN8 (n : Byte) : Statement (.ldLN8 n) := ofBytes 0x2E#8 1 rfl rfl rfl
theorem cpl : Statement .cpl := ofBytes 0x2F#8 0 rfl rfl rfl
theorem jrNcE8 (e : Byte) : Statement (.jrNcE8 e) := ofBytes 0x30#8 1 rfl rfl rfl
theorem ldSpN16 (n : Word) : Statement (.ldSpN16 n) := ofBytes 0x31#8 2 rfl rfl rfl
theorem ldAtHlDecA : Statement .ldAtHlDecA := ofBytes 0x32#8 0 rfl rfl rfl
theorem incSp : Statement .incSp := ofBytes 0x33#8 0 rfl rfl rfl
theorem incAtHl : Statement .incAtHl := ofBytes 0x34#8 0 rfl rfl rfl
theorem decAtHl : Statement .decAtHl := ofBytes 0x35#8 0 rfl rfl rfl
theorem ldAtHlN8 (n : Byte) : Statement (.ldAtHlN8 n) := ofBytes 0x36#8 1 rfl rfl rfl
theorem scf : Statement .scf := ofBytes 0x37#8 0 rfl rfl rfl
theorem jrCE8 (e : Byte) : Statement (.jrCE8 e) := ofBytes 0x38#8 1 rfl rfl rfl
theorem addHlSp : Statement .addHlSp := ofBytes 0x39#8 0 rfl rfl rfl
theorem ldAAtHlDec : Statement .ldAAtHlDec := ofBytes 0x3A#8 0 rfl rfl rfl
theorem decSp : Statement .decSp := ofBytes 0x3B#8 0 rfl rfl rfl
theorem incA : Statement .incA := ofBytes 0x3C#8 0 rfl rfl rfl
theorem decA : Statement .decA := ofBytes 0x3D#8 0 rfl rfl rfl
theorem ldAN8 (n : Byte) : Statement (.ldAN8 n) := ofBytes 0x3E#8 1 rfl rfl rfl
theorem ccf : Statement .ccf := ofBytes 0x3F#8 0 rfl rfl rfl
theorem ldBB : Statement .ldBB := ofBytes 0x40#8 0 rfl rfl rfl
theorem ldBC : Statement .ldBC := ofBytes 0x41#8 0 rfl rfl rfl
theorem ldBD : Statement .ldBD := ofBytes 0x42#8 0 rfl rfl rfl
theorem ldBE : Statement .ldBE := ofBytes 0x43#8 0 rfl rfl rfl
theorem ldBH : Statement .ldBH := ofBytes 0x44#8 0 rfl rfl rfl
theorem ldBL : Statement .ldBL := ofBytes 0x45#8 0 rfl rfl rfl
theorem ldBAtHl : Statement .ldBAtHl := ofBytes 0x46#8 0 rfl rfl rfl
theorem ldBA : Statement .ldBA := ofBytes 0x47#8 0 rfl rfl rfl
theorem ldCB : Statement .ldCB := ofBytes 0x48#8 0 rfl rfl rfl
theorem ldCC : Statement .ldCC := ofBytes 0x49#8 0 rfl rfl rfl
theorem ldCD : Statement .ldCD := ofBytes 0x4A#8 0 rfl rfl rfl
theorem ldCE : Statement .ldCE := ofBytes 0x4B#8 0 rfl rfl rfl
theorem ldCH : Statement .ldCH := ofBytes 0x4C#8 0 rfl rfl rfl
theorem ldCL : Statement .ldCL := ofBytes 0x4D#8 0 rfl rfl rfl
theorem ldCAtHl : Statement .ldCAtHl := ofBytes 0x4E#8 0 rfl rfl rfl
theorem ldCA : Statement .ldCA := ofBytes 0x4F#8 0 rfl rfl rfl
theorem ldDB : Statement .ldDB := ofBytes 0x50#8 0 rfl rfl rfl
theorem ldDC : Statement .ldDC := ofBytes 0x51#8 0 rfl rfl rfl
theorem ldDD : Statement .ldDD := ofBytes 0x52#8 0 rfl rfl rfl
theorem ldDE : Statement .ldDE := ofBytes 0x53#8 0 rfl rfl rfl
theorem ldDH : Statement .ldDH := ofBytes 0x54#8 0 rfl rfl rfl
theorem ldDL : Statement .ldDL := ofBytes 0x55#8 0 rfl rfl rfl
theorem ldDAtHl : Statement .ldDAtHl := ofBytes 0x56#8 0 rfl rfl rfl
theorem ldDA : Statement .ldDA := ofBytes 0x57#8 0 rfl rfl rfl
theorem ldEB : Statement .ldEB := ofBytes 0x58#8 0 rfl rfl rfl
theorem ldEC : Statement .ldEC := ofBytes 0x59#8 0 rfl rfl rfl
theorem ldED : Statement .ldED := ofBytes 0x5A#8 0 rfl rfl rfl
theorem ldEE : Statement .ldEE := ofBytes 0x5B#8 0 rfl rfl rfl
theorem ldEH : Statement .ldEH := ofBytes 0x5C#8 0 rfl rfl rfl
theorem ldEL : Statement .ldEL := ofBytes 0x5D#8 0 rfl rfl rfl
theorem ldEAtHl : Statement .ldEAtHl := ofBytes 0x5E#8 0 rfl rfl rfl
theorem ldEA : Statement .ldEA := ofBytes 0x5F#8 0 rfl rfl rfl
theorem ldHB : Statement .ldHB := ofBytes 0x60#8 0 rfl rfl rfl
theorem ldHC : Statement .ldHC := ofBytes 0x61#8 0 rfl rfl rfl
theorem ldHD : Statement .ldHD := ofBytes 0x62#8 0 rfl rfl rfl
theorem ldHE : Statement .ldHE := ofBytes 0x63#8 0 rfl rfl rfl
theorem ldHH : Statement .ldHH := ofBytes 0x64#8 0 rfl rfl rfl
theorem ldHL : Statement .ldHL := ofBytes 0x65#8 0 rfl rfl rfl
theorem ldHAtHl : Statement .ldHAtHl := ofBytes 0x66#8 0 rfl rfl rfl
theorem ldHA : Statement .ldHA := ofBytes 0x67#8 0 rfl rfl rfl
theorem ldLB : Statement .ldLB := ofBytes 0x68#8 0 rfl rfl rfl
theorem ldLC : Statement .ldLC := ofBytes 0x69#8 0 rfl rfl rfl
theorem ldLD : Statement .ldLD := ofBytes 0x6A#8 0 rfl rfl rfl
theorem ldLE : Statement .ldLE := ofBytes 0x6B#8 0 rfl rfl rfl
theorem ldLH : Statement .ldLH := ofBytes 0x6C#8 0 rfl rfl rfl
theorem ldLL : Statement .ldLL := ofBytes 0x6D#8 0 rfl rfl rfl
theorem ldLAtHl : Statement .ldLAtHl := ofBytes 0x6E#8 0 rfl rfl rfl
theorem ldLA : Statement .ldLA := ofBytes 0x6F#8 0 rfl rfl rfl
theorem ldAtHlB : Statement .ldAtHlB := ofBytes 0x70#8 0 rfl rfl rfl
theorem ldAtHlC : Statement .ldAtHlC := ofBytes 0x71#8 0 rfl rfl rfl
theorem ldAtHlD : Statement .ldAtHlD := ofBytes 0x72#8 0 rfl rfl rfl
theorem ldAtHlE : Statement .ldAtHlE := ofBytes 0x73#8 0 rfl rfl rfl
theorem ldAtHlH : Statement .ldAtHlH := ofBytes 0x74#8 0 rfl rfl rfl
theorem ldAtHlL : Statement .ldAtHlL := ofBytes 0x75#8 0 rfl rfl rfl
theorem halt : Statement .halt := ofBytes 0x76#8 0 rfl rfl rfl
theorem ldAtHlA : Statement .ldAtHlA := ofBytes 0x77#8 0 rfl rfl rfl
theorem ldAB : Statement .ldAB := ofBytes 0x78#8 0 rfl rfl rfl
theorem ldAC : Statement .ldAC := ofBytes 0x79#8 0 rfl rfl rfl
theorem ldAD : Statement .ldAD := ofBytes 0x7A#8 0 rfl rfl rfl
theorem ldAE : Statement .ldAE := ofBytes 0x7B#8 0 rfl rfl rfl
theorem ldAH : Statement .ldAH := ofBytes 0x7C#8 0 rfl rfl rfl
theorem ldAL : Statement .ldAL := ofBytes 0x7D#8 0 rfl rfl rfl
theorem ldAAtHl : Statement .ldAAtHl := ofBytes 0x7E#8 0 rfl rfl rfl
theorem ldAA : Statement .ldAA := ofBytes 0x7F#8 0 rfl rfl rfl
theorem addAB : Statement .addAB := ofBytes 0x80#8 0 rfl rfl rfl
theorem addAC : Statement .addAC := ofBytes 0x81#8 0 rfl rfl rfl
theorem addAD : Statement .addAD := ofBytes 0x82#8 0 rfl rfl rfl
theorem addAE : Statement .addAE := ofBytes 0x83#8 0 rfl rfl rfl
theorem addAH : Statement .addAH := ofBytes 0x84#8 0 rfl rfl rfl
theorem addAL : Statement .addAL := ofBytes 0x85#8 0 rfl rfl rfl
theorem addAAtHl : Statement .addAAtHl := ofBytes 0x86#8 0 rfl rfl rfl
theorem addAA : Statement .addAA := ofBytes 0x87#8 0 rfl rfl rfl
theorem adcAB : Statement .adcAB := ofBytes 0x88#8 0 rfl rfl rfl
theorem adcAC : Statement .adcAC := ofBytes 0x89#8 0 rfl rfl rfl
theorem adcAD : Statement .adcAD := ofBytes 0x8A#8 0 rfl rfl rfl
theorem adcAE : Statement .adcAE := ofBytes 0x8B#8 0 rfl rfl rfl
theorem adcAH : Statement .adcAH := ofBytes 0x8C#8 0 rfl rfl rfl
theorem adcAL : Statement .adcAL := ofBytes 0x8D#8 0 rfl rfl rfl
theorem adcAAtHl : Statement .adcAAtHl := ofBytes 0x8E#8 0 rfl rfl rfl
theorem adcAA : Statement .adcAA := ofBytes 0x8F#8 0 rfl rfl rfl
theorem subAB : Statement .subAB := ofBytes 0x90#8 0 rfl rfl rfl
theorem subAC : Statement .subAC := ofBytes 0x91#8 0 rfl rfl rfl
theorem subAD : Statement .subAD := ofBytes 0x92#8 0 rfl rfl rfl
theorem subAE : Statement .subAE := ofBytes 0x93#8 0 rfl rfl rfl
theorem subAH : Statement .subAH := ofBytes 0x94#8 0 rfl rfl rfl
theorem subAL : Statement .subAL := ofBytes 0x95#8 0 rfl rfl rfl
theorem subAAtHl : Statement .subAAtHl := ofBytes 0x96#8 0 rfl rfl rfl
theorem subAA : Statement .subAA := ofBytes 0x97#8 0 rfl rfl rfl
theorem sbcAB : Statement .sbcAB := ofBytes 0x98#8 0 rfl rfl rfl
theorem sbcAC : Statement .sbcAC := ofBytes 0x99#8 0 rfl rfl rfl
theorem sbcAD : Statement .sbcAD := ofBytes 0x9A#8 0 rfl rfl rfl
theorem sbcAE : Statement .sbcAE := ofBytes 0x9B#8 0 rfl rfl rfl
theorem sbcAH : Statement .sbcAH := ofBytes 0x9C#8 0 rfl rfl rfl
theorem sbcAL : Statement .sbcAL := ofBytes 0x9D#8 0 rfl rfl rfl
theorem sbcAAtHl : Statement .sbcAAtHl := ofBytes 0x9E#8 0 rfl rfl rfl
theorem sbcAA : Statement .sbcAA := ofBytes 0x9F#8 0 rfl rfl rfl
theorem andAB : Statement .andAB := ofBytes 0xA0#8 0 rfl rfl rfl
theorem andAC : Statement .andAC := ofBytes 0xA1#8 0 rfl rfl rfl
theorem andAD : Statement .andAD := ofBytes 0xA2#8 0 rfl rfl rfl
theorem andAE : Statement .andAE := ofBytes 0xA3#8 0 rfl rfl rfl
theorem andAH : Statement .andAH := ofBytes 0xA4#8 0 rfl rfl rfl
theorem andAL : Statement .andAL := ofBytes 0xA5#8 0 rfl rfl rfl
theorem andAAtHl : Statement .andAAtHl := ofBytes 0xA6#8 0 rfl rfl rfl
theorem andAA : Statement .andAA := ofBytes 0xA7#8 0 rfl rfl rfl
theorem xorAB : Statement .xorAB := ofBytes 0xA8#8 0 rfl rfl rfl
theorem xorAC : Statement .xorAC := ofBytes 0xA9#8 0 rfl rfl rfl
theorem xorAD : Statement .xorAD := ofBytes 0xAA#8 0 rfl rfl rfl
theorem xorAE : Statement .xorAE := ofBytes 0xAB#8 0 rfl rfl rfl
theorem xorAH : Statement .xorAH := ofBytes 0xAC#8 0 rfl rfl rfl
theorem xorAL : Statement .xorAL := ofBytes 0xAD#8 0 rfl rfl rfl
theorem xorAAtHl : Statement .xorAAtHl := ofBytes 0xAE#8 0 rfl rfl rfl
theorem xorAA : Statement .xorAA := ofBytes 0xAF#8 0 rfl rfl rfl
theorem orAB : Statement .orAB := ofBytes 0xB0#8 0 rfl rfl rfl
theorem orAC : Statement .orAC := ofBytes 0xB1#8 0 rfl rfl rfl
theorem orAD : Statement .orAD := ofBytes 0xB2#8 0 rfl rfl rfl
theorem orAE : Statement .orAE := ofBytes 0xB3#8 0 rfl rfl rfl
theorem orAH : Statement .orAH := ofBytes 0xB4#8 0 rfl rfl rfl
theorem orAL : Statement .orAL := ofBytes 0xB5#8 0 rfl rfl rfl
theorem orAAtHl : Statement .orAAtHl := ofBytes 0xB6#8 0 rfl rfl rfl
theorem orAA : Statement .orAA := ofBytes 0xB7#8 0 rfl rfl rfl
theorem cpAB : Statement .cpAB := ofBytes 0xB8#8 0 rfl rfl rfl
theorem cpAC : Statement .cpAC := ofBytes 0xB9#8 0 rfl rfl rfl
theorem cpAD : Statement .cpAD := ofBytes 0xBA#8 0 rfl rfl rfl
theorem cpAE : Statement .cpAE := ofBytes 0xBB#8 0 rfl rfl rfl
theorem cpAH : Statement .cpAH := ofBytes 0xBC#8 0 rfl rfl rfl
theorem cpAL : Statement .cpAL := ofBytes 0xBD#8 0 rfl rfl rfl
theorem cpAAtHl : Statement .cpAAtHl := ofBytes 0xBE#8 0 rfl rfl rfl
theorem cpAA : Statement .cpAA := ofBytes 0xBF#8 0 rfl rfl rfl
theorem retNz : Statement .retNz := ofBytes 0xC0#8 0 rfl rfl rfl
theorem popBc : Statement .popBc := ofBytes 0xC1#8 0 rfl rfl rfl
theorem jpNzN16 (n : Word) : Statement (.jpNzN16 n) := ofBytes 0xC2#8 2 rfl rfl rfl
theorem jpN16 (n : Word) : Statement (.jpN16 n) := ofBytes 0xC3#8 2 rfl rfl rfl
theorem callNzN16 (n : Word) : Statement (.callNzN16 n) := ofBytes 0xC4#8 2 rfl rfl rfl
theorem pushBc : Statement .pushBc := ofBytes 0xC5#8 0 rfl rfl rfl
theorem addAN8 (n : Byte) : Statement (.addAN8 n) := ofBytes 0xC6#8 1 rfl rfl rfl
theorem rst00 : Statement .rst00 := ofBytes 0xC7#8 0 rfl rfl rfl
theorem retZ : Statement .retZ := ofBytes 0xC8#8 0 rfl rfl rfl
theorem ret : Statement .ret := ofBytes 0xC9#8 0 rfl rfl rfl
theorem jpZN16 (n : Word) : Statement (.jpZN16 n) := ofBytes 0xCA#8 2 rfl rfl rfl
theorem prefixCb : Statement .prefixCb := ⟨(lengthBounds 0).1, (lengthBounds 0).2, fun h => absurd rfl h⟩
theorem callZN16 (n : Word) : Statement (.callZN16 n) := ofBytes 0xCC#8 2 rfl rfl rfl
theorem callN16 (n : Word) : Statement (.callN16 n) := ofBytes 0xCD#8 2 rfl rfl rfl
theorem adcAN8 (n : Byte) : Statement (.adcAN8 n) := ofBytes 0xCE#8 1 rfl rfl rfl
theorem rst08 : Statement .rst08 := ofBytes 0xCF#8 0 rfl rfl rfl
theorem retNc : Statement .retNc := ofBytes 0xD0#8 0 rfl rfl rfl
theorem popDe : Statement .popDe := ofBytes 0xD1#8 0 rfl rfl rfl
theorem jpNcN16 (n : Word) : Statement (.jpNcN16 n) := ofBytes 0xD2#8 2 rfl rfl rfl
theorem illegalD3 : Statement .illegalD3 := ofBytes 0xD3#8 0 rfl rfl rfl
theorem callNcN16 (n : Word) : Statement (.callNcN16 n) := ofBytes 0xD4#8 2 rfl rfl rfl
theorem pushDe : Statement .pushDe := ofBytes 0xD5#8 0 rfl rfl rfl
theorem subAN8 (n : Byte) : Statement (.subAN8 n) := ofBytes 0xD6#8 1 rfl rfl rfl
theorem rst10 : Statement .rst10 := ofBytes 0xD7#8 0 rfl rfl rfl
theorem retC : Statement .retC := ofBytes 0xD8#8 0 rfl rfl rfl
theorem reti : Statement .reti := ofBytes 0xD9#8 0 rfl rfl rfl
theorem jpCN16 (n : Word) : Statement (.jpCN16 n) := ofBytes 0xDA#8 2 rfl rfl rfl
theorem illegalDB : Statement .illegalDB := ofBytes 0xDB#8 0 rfl rfl rfl
theorem callCN16 (n : Word) : Statement (.callCN16 n) := ofBytes 0xDC#8 2 rfl rfl rfl
theorem illegalDD : Statement .illegalDD := ofBytes 0xDD#8 0 rfl rfl rfl
theorem sbcAN8 (n : Byte) : Statement (.sbcAN8 n) := ofBytes 0xDE#8 1 rfl rfl rfl
theorem rst18 : Statement .rst18 := ofBytes 0xDF#8 0 rfl rfl rfl
theorem ldhAtN8A (n : Byte) : Statement (.ldhAtN8A n) := ofBytes 0xE0#8 1 rfl rfl rfl
theorem popHl : Statement .popHl := ofBytes 0xE1#8 0 rfl rfl rfl
theorem ldAtCA : Statement .ldAtCA := ofBytes 0xE2#8 0 rfl rfl rfl
theorem illegalE3 : Statement .illegalE3 := ofBytes 0xE3#8 0 rfl rfl rfl
theorem illegalE4 : Statement .illegalE4 := ofBytes 0xE4#8 0 rfl rfl rfl
theorem pushHl : Statement .pushHl := ofBytes 0xE5#8 0 rfl rfl rfl
theorem andAN8 (n : Byte) : Statement (.andAN8 n) := ofBytes 0xE6#8 1 rfl rfl rfl
theorem rst20 : Statement .rst20 := ofBytes 0xE7#8 0 rfl rfl rfl
theorem addSpE8 (e : Byte) : Statement (.addSpE8 e) := ofBytes 0xE8#8 1 rfl rfl rfl
theorem jpHl : Statement .jpHl := ofBytes 0xE9#8 0 rfl rfl rfl
theorem ldAtN16A (n : Word) : Statement (.ldAtN16A n) := ofBytes 0xEA#8 2 rfl rfl rfl
theorem illegalEB : Statement .illegalEB := ofBytes 0xEB#8 0 rfl rfl rfl
theorem illegalEC : Statement .illegalEC := ofBytes 0xEC#8 0 rfl rfl rfl
theorem illegalED : Statement .illegalED := ofBytes 0xED#8 0 rfl rfl rfl
theorem xorAN8 (n : Byte) : Statement (.xorAN8 n) := ofBytes 0xEE#8 1 rfl rfl rfl
theorem rst28 : Statement .rst28 := ofBytes 0xEF#8 0 rfl rfl rfl
theorem ldhAAtN8 (n : Byte) : Statement (.ldhAAtN8 n) := ofBytes 0xF0#8 1 rfl rfl rfl
theorem popAf : Statement .popAf := ofBytes 0xF1#8 0 rfl rfl rfl
theorem ldAAtC : Statement .ldAAtC := ofBytes 0xF2#8 0 rfl rfl rfl
theorem di : Statement .di := ofBytes 0xF3#8 0 rfl rfl rfl
theorem illegalF4 : Statement .illegalF4 := ofBytes 0xF4#8 0 rfl rfl rfl
theorem pushAf : Statement .pushAf := ofBytes 0xF5#8 0 rfl rfl rfl
theorem orAN8 (n : Byte) : Statement (.orAN8 n) := ofBytes 0xF6#8 1 rfl rfl rfl
theorem rst30 : Statement .rst30 := ofBytes 0xF7#8 0 rfl rfl rfl
theorem ldHlSpE8 (e : Byte) : Statement (.ldHlSpE8 e) := ofBytes 0xF8#8 1 rfl rfl rfl
theorem ldSpHl : Statement .ldSpHl := ofBytes 0xF9#8 0 rfl rfl rfl
theorem ldAAtN16 (n : Word) : Statement (.ldAAtN16 n) := ofBytes 0xFA#8 2 rfl rfl rfl
theorem ei : Statement .ei := ofBytes 0xFB#8 0 rfl rfl rfl
theorem illegalFC : Statement .illegalFC := ofBytes 0xFC#8 0 rfl rfl rfl
theorem illegalFD : Statement .illegalFD := ofBytes 0xFD#8 0 rfl rfl rfl
theorem cpAN8 (n : Byte) : Statement (.cpAN8 n) := ofBytes 0xFE#8 1 rfl rfl rfl
theorem rst38 : Statement .rst38 := ofBytes 0xFF#8 0 rfl rfl rfl
theorem rlcB : Statement .rlcB := ofBytes 0xCB#8 1 rfl rfl rfl
theorem rlcC : Statement .rlcC := ofBytes 0xCB#8 1 rfl rfl rfl
theorem rlcD : Statement .rlcD := ofBytes 0xCB#8 1 rfl rfl rfl
theorem rlcE : Statement .rlcE := ofBytes 0xCB#8 1 rfl rfl rfl
theorem rlcH : Statement .rlcH := ofBytes 0xCB#8 1 rfl rfl rfl
theorem rlcL : Statement .rlcL := ofBytes 0xCB#8 1 rfl rfl rfl
theorem rlcAtHl : Statement .rlcAtHl := ofBytes 0xCB#8 1 rfl rfl rfl
theorem rlcA : Statement .rlcA := ofBytes 0xCB#8 1 rfl rfl rfl
theorem rrcB : Statement .rrcB := ofBytes 0xCB#8 1 rfl rfl rfl
theorem rrcC : Statement .rrcC := ofBytes 0xCB#8 1 rfl rfl rfl
theorem rrcD : Statement .rrcD := ofBytes 0xCB#8 1 rfl rfl rfl
theorem rrcE : Statement .rrcE := ofBytes 0xCB#8 1 rfl rfl rfl
theorem rrcH : Statement .rrcH := ofBytes 0xCB#8 1 rfl rfl rfl
theorem rrcL : Statement .rrcL := ofBytes 0xCB#8 1 rfl rfl rfl
theorem rrcAtHl : Statement .rrcAtHl := ofBytes 0xCB#8 1 rfl rfl rfl
theorem rrcA : Statement .rrcA := ofBytes 0xCB#8 1 rfl rfl rfl
theorem rlB : Statement .rlB := ofBytes 0xCB#8 1 rfl rfl rfl
theorem rlC : Statement .rlC := ofBytes 0xCB#8 1 rfl rfl rfl
theorem rlD : Statement .rlD := ofBytes 0xCB#8 1 rfl rfl rfl
theorem rlE : Statement .rlE := ofBytes 0xCB#8 1 rfl rfl rfl
theorem rlH : Statement .rlH := ofBytes 0xCB#8 1 rfl rfl rfl
theorem rlL : Statement .rlL := ofBytes 0xCB#8 1 rfl rfl rfl
theorem rlAtHl : Statement .rlAtHl := ofBytes 0xCB#8 1 rfl rfl rfl
theorem rlA : Statement .rlA := ofBytes 0xCB#8 1 rfl rfl rfl
theorem rrB : Statement .rrB := ofBytes 0xCB#8 1 rfl rfl rfl
theorem rrC : Statement .rrC := ofBytes 0xCB#8 1 rfl rfl rfl
theorem rrD : Statement .rrD := ofBytes 0xCB#8 1 rfl rfl rfl
theorem rrE : Statement .rrE := ofBytes 0xCB#8 1 rfl rfl rfl
theorem rrH : Statement .rrH := ofBytes 0xCB#8 1 rfl rfl rfl
theorem rrL : Statement .rrL := ofBytes 0xCB#8 1 rfl rfl rfl
theorem rrAtHl : Statement .rrAtHl := ofBytes 0xCB#8 1 rfl rfl rfl
theorem rrA : Statement .rrA := ofBytes 0xCB#8 1 rfl rfl rfl
theorem slaB : Statement .slaB := ofBytes 0xCB#8 1 rfl rfl rfl
theorem slaC : Statement .slaC := ofBytes 0xCB#8 1 rfl rfl rfl
theorem slaD : Statement .slaD := ofBytes 0xCB#8 1 rfl rfl rfl
theorem slaE : Statement .slaE := ofBytes 0xCB#8 1 rfl rfl rfl
theorem slaH : Statement .slaH := ofBytes 0xCB#8 1 rfl rfl rfl
theorem slaL : Statement .slaL := ofBytes 0xCB#8 1 rfl rfl rfl
theorem slaAtHl : Statement .slaAtHl := ofBytes 0xCB#8 1 rfl rfl rfl
theorem slaA : Statement .slaA := ofBytes 0xCB#8 1 rfl rfl rfl
theorem sraB : Statement .sraB := ofBytes 0xCB#8 1 rfl rfl rfl
theorem sraC : Statement .sraC := ofBytes 0xCB#8 1 rfl rfl rfl
theorem sraD : Statement .sraD := ofBytes 0xCB#8 1 rfl rfl rfl
theorem sraE : Statement .sraE := ofBytes 0xCB#8 1 rfl rfl rfl
theorem sraH : Statement .sraH := ofBytes 0xCB#8 1 rfl rfl rfl
theorem sraL : Statement .sraL := ofBytes 0xCB#8 1 rfl rfl rfl
theorem sraAtHl : Statement .sraAtHl := ofBytes 0xCB#8 1 rfl rfl rfl
theorem sraA : Statement .sraA := ofBytes 0xCB#8 1 rfl rfl rfl
theorem swapB : Statement .swapB := ofBytes 0xCB#8 1 rfl rfl rfl
theorem swapC : Statement .swapC := ofBytes 0xCB#8 1 rfl rfl rfl
theorem swapD : Statement .swapD := ofBytes 0xCB#8 1 rfl rfl rfl
theorem swapE : Statement .swapE := ofBytes 0xCB#8 1 rfl rfl rfl
theorem swapH : Statement .swapH := ofBytes 0xCB#8 1 rfl rfl rfl
theorem swapL : Statement .swapL := ofBytes 0xCB#8 1 rfl rfl rfl
theorem swapAtHl : Statement .swapAtHl := ofBytes 0xCB#8 1 rfl rfl rfl
theorem swapA : Statement .swapA := ofBytes 0xCB#8 1 rfl rfl rfl
theorem srlB : Statement .srlB := ofBytes 0xCB#8 1 rfl rfl rfl
theorem srlC : Statement .srlC := ofBytes 0xCB#8 1 rfl rfl rfl
theorem srlD : Statement .srlD := ofBytes 0xCB#8 1 rfl rfl rfl
theorem srlE : Statement .srlE := ofBytes 0xCB#8 1 rfl rfl rfl
theorem srlH : Statement .srlH := ofBytes 0xCB#8 1 rfl rfl rfl
theorem srlL : Statement .srlL := ofBytes 0xCB#8 1 rfl rfl rfl
theorem srlAtHl : Statement .srlAtHl := ofBytes 0xCB#8 1 rfl rfl rfl
theorem srlA : Statement .srlA := ofBytes 0xCB#8 1 rfl rfl rfl
theorem bit0B : Statement .bit0B := ofBytes 0xCB#8 1 rfl rfl rfl
theorem bit0C : Statement .bit0C := ofBytes 0xCB#8 1 rfl rfl rfl
theorem bit0D : Statement .bit0D := ofBytes 0xCB#8 1 rfl rfl rfl
theorem bit0E : Statement .bit0E := ofBytes 0xCB#8 1 rfl rfl rfl
theorem bit0H : Statement .bit0H := ofBytes 0xCB#8 1 rfl rfl rfl
theorem bit0L : Statement .bit0L := ofBytes 0xCB#8 1 rfl rfl rfl
theorem bit0AtHl : Statement .bit0AtHl := ofBytes 0xCB#8 1 rfl rfl rfl
theorem bit0A : Statement .bit0A := ofBytes 0xCB#8 1 rfl rfl rfl
theorem bit1B : Statement .bit1B := ofBytes 0xCB#8 1 rfl rfl rfl
theorem bit1C : Statement .bit1C := ofBytes 0xCB#8 1 rfl rfl rfl
theorem bit1D : Statement .bit1D := ofBytes 0xCB#8 1 rfl rfl rfl
theorem bit1E : Statement .bit1E := ofBytes 0xCB#8 1 rfl rfl rfl
theorem bit1H : Statement .bit1H := ofBytes 0xCB#8 1 rfl rfl rfl
theorem bit1L : Statement .bit1L := ofBytes 0xCB#8 1 rfl rfl rfl
theorem bit1AtHl : Statement .bit1AtHl := ofBytes 0xCB#8 1 rfl rfl rfl
theorem bit1A : Statement .bit1A := ofBytes 0xCB#8 1 rfl rfl rfl
theorem bit2B : Statement .bit2B := ofBytes 0xCB#8 1 rfl rfl rfl
theorem bit2C : Statement .bit2C := ofBytes 0xCB#8 1 rfl rfl rfl
theorem bit2D : Statement .bit2D := ofBytes 0xCB#8 1 rfl rfl rfl
theorem bit2E : Statement .bit2E := ofBytes 0xCB#8 1 rfl rfl rfl
theorem bit2H : Statement .bit2H := ofBytes 0xCB#8 1 rfl rfl rfl
theorem bit2L : Statement .bit2L := ofBytes 0xCB#8 1 rfl rfl rfl
theorem bit2AtHl : Statement .bit2AtHl := ofBytes 0xCB#8 1 rfl rfl rfl
theorem bit2A : Statement .bit2A := ofBytes 0xCB#8 1 rfl rfl rfl
theorem bit3B : Statement .bit3B := ofBytes 0xCB#8 1 rfl rfl rfl
theorem bit3C : Statement .bit3C := ofBytes 0xCB#8 1 rfl rfl rfl
theorem bit3D : Statement .bit3D := ofBytes 0xCB#8 1 rfl rfl rfl
theorem bit3E : Statement .bit3E := ofBytes 0xCB#8 1 rfl rfl rfl
theorem bit3H : Statement .bit3H := ofBytes 0xCB#8 1 rfl rfl rfl
theorem bit3L : Statement .bit3L := ofBytes 0xCB#8 1 rfl rfl rfl
theorem bit3AtHl : Statement .bit3AtHl := ofBytes 0xCB#8 1 rfl rfl rfl
theorem bit3A : Statement .bit3A := ofBytes 0xCB#8 1 rfl rfl rfl
theorem bit4B : Statement .bit4B := ofBytes 0xCB#8 1 rfl rfl rfl
theorem bit4C : Statement .bit4C := ofBytes 0xCB#8 1 rfl rfl rfl
theorem bit4D : Statement .bit4D := ofBytes 0xCB#8 1 rfl rfl rfl
theorem bit4E : Statement .bit4E := ofBytes 0xCB#8 1 rfl rfl rfl
theorem bit4H : Statement .bit4H := ofBytes 0xCB#8 1 rfl rfl rfl
theorem bit4L : Statement .bit4L := ofBytes 0xCB#8 1 rfl rfl rfl
theorem bit4AtHl : Statement .bit4AtHl := ofBytes 0xCB#8 1 rfl rfl rfl
theorem bit4A : Statement .bit4A := ofBytes 0xCB#8 1 rfl rfl rfl
theorem bit5B : Statement .bit5B := ofBytes 0xCB#8 1 rfl rfl rfl
theorem bit5C : Statement .bit5C := ofBytes 0xCB#8 1 rfl rfl rfl
theorem bit5D : Statement .bit5D := ofBytes 0xCB#8 1 rfl rfl rfl
theorem bit5E : Statement .bit5E := ofBytes 0xCB#8 1 rfl rfl rfl
theorem bit5H : Statement .bit5H := ofBytes 0xCB#8 1 rfl rfl rfl
theorem bit5L : Statement .bit5L := ofBytes 0xCB#8 1 rfl rfl rfl
theorem bit5AtHl : Statement .bit5AtHl := ofBytes 0xCB#8 1 rfl rfl rfl
theorem bit5A : Statement .bit5A := ofBytes 0xCB#8 1 rfl rfl rfl
theorem bit6B : Statement .bit6B := ofBytes 0xCB#8 1 rfl rfl rfl
theorem bit6C : Statement .bit6C := ofBytes 0xCB#8 1 rfl rfl rfl
theorem bit6D : Statement .bit6D := ofBytes 0xCB#8 1 rfl rfl rfl
theorem bit6E : Statement .bit6E := ofBytes 0xCB#8 1 rfl rfl rfl
theorem bit6H : Statement .bit6H := ofBytes 0xCB#8 1 rfl rfl rfl
theorem bit6L : Statement .bit6L := ofBytes 0xCB#8 1 rfl rfl rfl
theorem bit6AtHl : Statement .bit6AtHl := ofBytes 0xCB#8 1 rfl rfl rfl
theorem bit6A : Statement .bit6A := ofBytes 0xCB#8 1 rfl rfl rfl
theorem bit7B : Statement .bit7B := ofBytes 0xCB#8 1 rfl rfl rfl
theorem bit7C : Statement .bit7C := ofBytes 0xCB#8 1 rfl rfl rfl
theorem bit7D : Statement .bit7D := ofBytes 0xCB#8 1 rfl rfl rfl
theorem bit7E : Statement .bit7E := ofBytes 0xCB#8 1 rfl rfl rfl
theorem bit7H : Statement .bit7H := ofBytes 0xCB#8 1 rfl rfl rfl
theorem bit7L : Statement .bit7L := ofBytes 0xCB#8 1 rfl rfl rfl
theorem bit7AtHl : Statement .bit7AtHl := ofBytes 0xCB#8 1 rfl rfl rfl
theorem bit7A : Statement .bit7A := ofBytes 0xCB#8 1 rfl rfl rfl
theorem res0B : Statement .res0B := ofBytes 0xCB#8 1 rfl rfl rfl
theorem res0C : Statement .res0C := ofBytes 0xCB#8 1 rfl rfl rfl
theorem res0D : Statement .res0D := ofBytes 0xCB#8 1 rfl rfl rfl
theorem res0E : Statement .res0E := ofBytes 0xCB#8 1 rfl rfl rfl
theorem res0H : Statement .res0H := ofBytes 0xCB#8 1 rfl rfl rfl
theorem res0L : Statement .res0L := ofBytes 0xCB#8 1 rfl rfl rfl
theorem res0AtHl : Statement .res0AtHl := ofBytes 0xCB#8 1 rfl rfl rfl
theorem res0A : Statement .res0A := ofBytes 0xCB#8 1 rfl rfl rfl
theorem res1B : Statement .res1B := ofBytes 0xCB#8 1 rfl rfl rfl
theorem res1C : Statement .res1C := ofBytes 0xCB#8 1 rfl rfl rfl
theorem res1D : Statement .res1D := ofBytes 0xCB#8 1 rfl rfl rfl
theorem res1E : Statement .res1E := ofBytes 0xCB#8 1 rfl rfl rfl
theorem res1H : Statement .res1H := ofBytes 0xCB#8 1 rfl rfl rfl
theorem res1L : Statement .res1L := ofBytes 0xCB#8 1 rfl rfl rfl
theorem res1AtHl : Statement .res1AtHl := ofBytes 0xCB#8 1 rfl rfl rfl
theorem res1A : Statement .res1A := ofBytes 0xCB#8 1 rfl rfl rfl
theorem res2B : Statement .res2B := ofBytes 0xCB#8 1 rfl rfl rfl
theorem res2C : Statement .res2C := ofBytes 0xCB#8 1 rfl rfl rfl
theorem res2D : Statement .res2D := ofBytes 0xCB#8 1 rfl rfl rfl
theorem res2E : Statement .res2E := ofBytes 0xCB#8 1 rfl rfl rfl
theorem res2H : Statement .res2H := ofBytes 0xCB#8 1 rfl rfl rfl
theorem res2L : Statement .res2L := ofBytes 0xCB#8 1 rfl rfl rfl
theorem res2AtHl : Statement .res2AtHl := ofBytes 0xCB#8 1 rfl rfl rfl
theorem res2A : Statement .res2A := ofBytes 0xCB#8 1 rfl rfl rfl
theorem res3B : Statement .res3B := ofBytes 0xCB#8 1 rfl rfl rfl
theorem res3C : Statement .res3C := ofBytes 0xCB#8 1 rfl rfl rfl
theorem res3D : Statement .res3D := ofBytes 0xCB#8 1 rfl rfl rfl
theorem res3E : Statement .res3E := ofBytes 0xCB#8 1 rfl rfl rfl
theorem res3H : Statement .res3H := ofBytes 0xCB#8 1 rfl rfl rfl
theorem res3L : Statement .res3L := ofBytes 0xCB#8 1 rfl rfl rfl
theorem res3AtHl : Statement .res3AtHl := ofBytes 0xCB#8 1 rfl rfl rfl
theorem res3A : Statement .res3A := ofBytes 0xCB#8 1 rfl rfl rfl
theorem res4B : Statement .res4B := ofBytes 0xCB#8 1 rfl rfl rfl
theorem res4C : Statement .res4C := ofBytes 0xCB#8 1 rfl rfl rfl
theorem res4D : Statement .res4D := ofBytes 0xCB#8 1 rfl rfl rfl
theorem res4E : Statement .res4E := ofBytes 0xCB#8 1 rfl rfl rfl
theorem res4H : Statement .res4H := ofBytes 0xCB#8 1 rfl rfl rfl
theorem res4L : Statement .res4L := ofBytes 0xCB#8 1 rfl rfl rfl
theorem res4AtHl : Statement .res4AtHl := ofBytes 0xCB#8 1 rfl rfl rfl
theorem res4A : Statement .res4A := ofBytes 0xCB#8 1 rfl rfl rfl
theorem res5B : Statement .res5B := ofBytes 0xCB#8 1 rfl rfl rfl
theorem res5C : Statement .res5C := ofBytes 0xCB#8 1 rfl rfl rfl
theorem res5D : Statement .res5D := ofBytes 0xCB#8 1 rfl rfl rfl
theorem res5E : Statement .res5E := ofBytes 0xCB#8 1 rfl rfl rfl
theorem res5H : Statement .res5H := ofBytes 0xCB#8 1 rfl rfl rfl
theorem res5L : Statement .res5L := ofBytes 0xCB#8 1 rfl rfl rfl
theorem res5AtHl : Statement .res5AtHl := ofBytes 0xCB#8 1 rfl rfl rfl
theorem res5A : Statement .res5A := ofBytes 0xCB#8 1 rfl rfl rfl
theorem res6B : Statement .res6B := ofBytes 0xCB#8 1 rfl rfl rfl
theorem res6C : Statement .res6C := ofBytes 0xCB#8 1 rfl rfl rfl
theorem res6D : Statement .res6D := ofBytes 0xCB#8 1 rfl rfl rfl
theorem res6E : Statement .res6E := ofBytes 0xCB#8 1 rfl rfl rfl
theorem res6H : Statement .res6H := ofBytes 0xCB#8 1 rfl rfl rfl
theorem res6L : Statement .res6L := ofBytes 0xCB#8 1 rfl rfl rfl
theorem res6AtHl : Statement .res6AtHl := ofBytes 0xCB#8 1 rfl rfl rfl
theorem res6A : Statement .res6A := ofBytes 0xCB#8 1 rfl rfl rfl
theorem res7B : Statement .res7B := ofBytes 0xCB#8 1 rfl rfl rfl
theorem res7C : Statement .res7C := ofBytes 0xCB#8 1 rfl rfl rfl
theorem res7D : Statement .res7D := ofBytes 0xCB#8 1 rfl rfl rfl
theorem res7E : Statement .res7E := ofBytes 0xCB#8 1 rfl rfl rfl
theorem res7H : Statement .res7H := ofBytes 0xCB#8 1 rfl rfl rfl
theorem res7L : Statement .res7L := ofBytes 0xCB#8 1 rfl rfl rfl
theorem res7AtHl : Statement .res7AtHl := ofBytes 0xCB#8 1 rfl rfl rfl
theorem res7A : Statement .res7A := ofBytes 0xCB#8 1 rfl rfl rfl
theorem set0B : Statement .set0B := ofBytes 0xCB#8 1 rfl rfl rfl
theorem set0C : Statement .set0C := ofBytes 0xCB#8 1 rfl rfl rfl
theorem set0D : Statement .set0D := ofBytes 0xCB#8 1 rfl rfl rfl
theorem set0E : Statement .set0E := ofBytes 0xCB#8 1 rfl rfl rfl
theorem set0H : Statement .set0H := ofBytes 0xCB#8 1 rfl rfl rfl
theorem set0L : Statement .set0L := ofBytes 0xCB#8 1 rfl rfl rfl
theorem set0AtHl : Statement .set0AtHl := ofBytes 0xCB#8 1 rfl rfl rfl
theorem set0A : Statement .set0A := ofBytes 0xCB#8 1 rfl rfl rfl
theorem set1B : Statement .set1B := ofBytes 0xCB#8 1 rfl rfl rfl
theorem set1C : Statement .set1C := ofBytes 0xCB#8 1 rfl rfl rfl
theorem set1D : Statement .set1D := ofBytes 0xCB#8 1 rfl rfl rfl
theorem set1E : Statement .set1E := ofBytes 0xCB#8 1 rfl rfl rfl
theorem set1H : Statement .set1H := ofBytes 0xCB#8 1 rfl rfl rfl
theorem set1L : Statement .set1L := ofBytes 0xCB#8 1 rfl rfl rfl
theorem set1AtHl : Statement .set1AtHl := ofBytes 0xCB#8 1 rfl rfl rfl
theorem set1A : Statement .set1A := ofBytes 0xCB#8 1 rfl rfl rfl
theorem set2B : Statement .set2B := ofBytes 0xCB#8 1 rfl rfl rfl
theorem set2C : Statement .set2C := ofBytes 0xCB#8 1 rfl rfl rfl
theorem set2D : Statement .set2D := ofBytes 0xCB#8 1 rfl rfl rfl
theorem set2E : Statement .set2E := ofBytes 0xCB#8 1 rfl rfl rfl
theorem set2H : Statement .set2H := ofBytes 0xCB#8 1 rfl rfl rfl
theorem set2L : Statement .set2L := ofBytes 0xCB#8 1 rfl rfl rfl
theorem set2AtHl : Statement .set2AtHl := ofBytes 0xCB#8 1 rfl rfl rfl
theorem set2A : Statement .set2A := ofBytes 0xCB#8 1 rfl rfl rfl
theorem set3B : Statement .set3B := ofBytes 0xCB#8 1 rfl rfl rfl
theorem set3C : Statement .set3C := ofBytes 0xCB#8 1 rfl rfl rfl
theorem set3D : Statement .set3D := ofBytes 0xCB#8 1 rfl rfl rfl
theorem set3E : Statement .set3E := ofBytes 0xCB#8 1 rfl rfl rfl
theorem set3H : Statement .set3H := ofBytes 0xCB#8 1 rfl rfl rfl
theorem set3L : Statement .set3L := ofBytes 0xCB#8 1 rfl rfl rfl
theorem set3AtHl : Statement .set3AtHl := ofBytes 0xCB#8 1 rfl rfl rfl
theorem set3A : Statement .set3A := ofBytes 0xCB#8 1 rfl rfl rfl
theorem set4B : Statement .set4B := ofBytes 0xCB#8 1 rfl rfl rfl
theorem set4C : Statement .set4C := ofBytes 0xCB#8 1 rfl rfl rfl
theorem set4D : Statement .set4D := ofBytes 0xCB#8 1 rfl rfl rfl
theorem set4E : Statement .set4E := ofBytes 0xCB#8 1 rfl rfl rfl
theorem set4H : Statement .set4H := ofBytes 0xCB#8 1 rfl rfl rfl
theorem set4L : Statement .set4L := ofBytes 0xCB#8 1 rfl rfl rfl
theorem set4AtHl : Statement .set4AtHl := ofBytes 0xCB#8 1 rfl rfl rfl
theorem set4A : Statement .set4A := ofBytes 0xCB#8 1 rfl rfl rfl
theorem set5B : Statement .set5B := ofBytes 0xCB#8 1 rfl rfl rfl
theorem set5C : Statement .set5C := ofBytes 0xCB#8 1 rfl rfl rfl
theorem set5D : Statement .set5D := ofBytes 0xCB#8 1 rfl rfl rfl
theorem set5E : Statement .set5E := ofBytes 0xCB#8 1 rfl rfl rfl
theorem set5H : Statement .set5H := ofBytes 0xCB#8 1 rfl rfl rfl
theorem set5L : Statement .set5L := ofBytes 0xCB#8 1 rfl rfl rfl
theorem set5AtHl : Statement .set5AtHl := ofBytes 0xCB#8 1 rfl rfl rfl
theorem set5A : Statement .set5A := ofBytes 0xCB#8 1 rfl rfl rfl
theorem set6B : Statement .set6B := ofBytes 0xCB#8 1 rfl rfl rfl
theorem set6C : Statement .set6C := ofBytes 0xCB#8 1 rfl rfl rfl
theorem set6D : Statement .set6D := ofBytes 0xCB#8 1 rfl rfl rfl
theorem set6E : Statement .set6E := ofBytes 0xCB#8 1 rfl rfl rfl
theorem set6H : Statement .set6H := ofBytes 0xCB#8 1 rfl rfl rfl
theorem set6L : Statement .set6L := ofBytes 0xCB#8 1 rfl rfl rfl
theorem set6AtHl : Statement .set6AtHl := ofBytes 0xCB#8 1 rfl rfl rfl
theorem set6A : Statement .set6A := ofBytes 0xCB#8 1 rfl rfl rfl
theorem set7B : Statement .set7B := ofBytes 0xCB#8 1 rfl rfl rfl
theorem set7C : Statement .set7C := ofBytes 0xCB#8 1 rfl rfl rfl
theorem set7D : Statement .set7D := ofBytes 0xCB#8 1 rfl rfl rfl
theorem set7E : Statement .set7E := ofBytes 0xCB#8 1 rfl rfl rfl
theorem set7H : Statement .set7H := ofBytes 0xCB#8 1 rfl rfl rfl
theorem set7L : Statement .set7L := ofBytes 0xCB#8 1 rfl rfl rfl
theorem set7AtHl : Statement .set7AtHl := ofBytes 0xCB#8 1 rfl rfl rfl
theorem set7A : Statement .set7A := ofBytes 0xCB#8 1 rfl rfl rfl

end Sys2Proof.Laws.EncodedLength
end

