-- ==== Sys2Proof/Laws/Step.lean ====
section
/-! SUPPORT. Everything a step can do: the three kinds of step, the three outcomes of the interrupt check, and one
induction for properties that every part of a step keeps. -/

namespace Sys2Proof.Machine

/-! ### Ticking -/

@[simp] theorem tickDevices_cpu (c : Nat) (s : State) : (tickDevices c s).cpu = s.cpu := by simp [tickDevices]
@[simp] theorem tickDevices_ie (c : Nat) (s : State) : (tickDevices c s).ie = s.ie := by simp [tickDevices]
@[simp] theorem tickDevices_joypad (c : Nat) (s : State) : (tickDevices c s).joypad = s.joypad := by simp [tickDevices]
@[simp] theorem tickDevices_mbc (c : Nat) (s : State) : (tickDevices c s).mbc = s.mbc := by simp [tickDevices]
@[simp] theorem tickDevices_arrays (c : Nat) (s : State) : (tickDevices c s).arrays = s.arrays := by simp [tickDevices]
@[simp] theorem tickDevices_bootEnabled (c : Nat) (s : State) : (tickDevices c s).bootEnabled = s.bootEnabled := by
  simp [tickDevices]
@[simp] theorem tickDevices_params (c : Nat) (s : State) : (tickDevices c s).params = s.params := by simp [tickDevices]

/-! ### The interrupt check -/

/-- The three outcomes of the check. -/
theorem handleInterrupt_cases (s : State) :
    handleInterrupt s = (s, 0) ∨ handleInterrupt s = (wake s, 0) ∨
      ∃ k, s.cpu.ime = true ∧ chosenIrq (pendingSet s) = some k ∧
        handleInterrupt s = (takeInterrupt k (wake s), 20) := by
  unfold handleInterrupt
  by_cases hp : pendingSet s = 0#5
  · exact .inl (if_pos hp)
  · rw [if_neg hp]
    dsimp only
    by_cases hi : (wake s).cpu.ime = false
    · exact .inr (.inl (if_pos hi))
    · rw [if_neg hi]
      cases hk : chosenIrq (pendingSet s) with
      | none => exact .inr (.inl rfl)
      | some k => exact .inr (.inr ⟨k, by simpa using hi, rfl, rfl⟩)

/-! ### The step -/

/-- The three kinds of step: an ended machine stays as it is; a halted one idles for 4 cycles; any other runs the
instruction at PC. -/
theorem step_cases {s t : State} (h : step s = .next t) :
    (s.Ended ∧ t = s) ∨
    (¬ s.Ended ∧ s.cpu.runState = .halted ∧ t = afterCpu (applyPendingEi s) 4) ∨
    (¬ s.Ended ∧ s.cpu.runState ≠ .halted ∧ ∃ u,
      exec (fetchInstr (applyPendingEi s)) (pastInstr (applyPendingEi s)) = .next u ∧
      t = afterCpu u (cycles (fetchInstr (applyPendingEi s)) (pastInstr (applyPendingEi s)))) := by
  unfold step systemStep at h
  by_cases he : s.Ended
  · rw [if_pos (by exact he), Host.Outcome.next.injEq] at h
    exact .inl ⟨he, h.symm⟩
  · rw [if_neg (by exact he)] at h
    unfold cpuStep at h
    dsimp only at h
    by_cases hh : (applyPendingEi s).cpu.runState = .halted
    · rw [if_pos hh] at h
      simp only [Host.Outcome.next.injEq] at h
      exact .inr (.inl ⟨he, by simpa using hh, h.symm⟩)
    · rw [if_neg hh] at h
      obtain ⟨f, hf⟩ := Form.cover (fetchInstr (applyPendingEi s))
      have hx := exec_form f (pastInstr (applyPendingEi s))
      rw [hf] at hx
      rw [hx] at h
      simp only [Host.Outcome.next.injEq] at h
      exact .inr (.inr ⟨he, by simpa using hh, _, hx, h.symm⟩)

/-- A property that ticking, waking and taking an interrupt keep is kept by what follows an instruction. -/
theorem afterCpu_induction {P : State → Prop} (tick : ∀ c s, P s → P (tickDevices c s))
    (setRunState : ∀ s, P s → P (setRunState .running s)) (take : ∀ k s, P s → P (takeInterrupt k s))
    (c : Nat) (s : State) (h : P s) : P (afterCpu s c) := by
  have hwake : ∀ s, P s → P (wake s) := fun s hs => by
    unfold wake; split
    · exact setRunState s hs
    · exact hs
  unfold afterCpu
  split
  · exact h
  · dsimp only
    split
    · exact tick _ _ h
    · rcases handleInterrupt_cases (tickDevices c s) with e | e | ⟨k, -, -, e⟩ <;> rw [e] <;> dsimp only
      · rw [if_neg (by omega)]; exact tick _ _ h
      · rw [if_neg (by omega)]; exact hwake _ (tick _ _ h)
      · rw [if_pos (by omega)]; exact tick _ _ (take _ _ (hwake _ (tick _ _ h)))

/-- The step keeps a kept property that ticking and clearing IF bits keep. -/
theorem Kept.step {P : State → Prop} (k : Kept P) (tick : ∀ c s, P s → P (tickDevices c s))
    (ei : ∀ s, P s → P (applyPendingEi s)) (clearIf : ∀ v s, P s → P { s with ifReg := v }) (s t : State)
    (h : P s) (hs : step s = .next t) : P t := by
  have after : ∀ c s, P s → P (afterCpu s c) := fun c s hs =>
    afterCpu_induction tick (fun s hs => k.setRunState _ _ hs)
      (fun j s hs => k.setPc _ _ (k.push16 _ _ (clearIf _ _ (k.setIme _ _ hs)))) c s hs
  rcases step_cases hs with ⟨-, rfl⟩ | ⟨-, -, rfl⟩ | ⟨-, -, u, hu, rfl⟩
  · exact h
  · exact after _ _ (ei _ h)
  · exact after _ _ (k.exec _ _ _ (k.setPc _ _ (ei _ h)) hu)

end Sys2Proof.Machine
end

