-- ==== Sys2Proof/Tests/Slice0.lean ====
section
/-! SUPPORT. The model's own tests, and a witness for the hypotheses of every statement that has some. Expected results
come from spec/opcode_table.json, from the encodings of the family rules and from the vectors of
spec/95_test_vectors.md, whose numbers are named. -/

set_option Elab.async false

namespace Sys2Proof.Tests

open Sys2Proof Sys2Proof.Machine

/-! ### Well-formedness -/

theorem test_wellFormed_refuses_prefix_alone : ¬ Instr.WellFormed .prefixCb := by decide
theorem test_wellFormed_accepts_nop : Instr.WellFormed .nop := by decide

/-! ### Decoding: one word per family, written bit by bit from the family rules -/

theorem test_decode_alu_fields : -- 10 yyy zzz (R306): SBC A,E is y = 3, z = 3; AND (HL) is y = 4, z = 6
    decode3 0b10_011_011#8 0#8 0#8 = .sbcAE ∧ decode3 0b10_100_110#8 0#8 0#8 = .andAAtHl := by decide
theorem test_decode_alu_immediate : decode3 0b11_101_110#8 0x5A#8 0#8 = .xorAN8 0x5A#8 := by decide -- 11 yyy 110
theorem test_decode_load : -- 01 yyy zzz (R313): LD D,L and LD (HL),A
    decode3 0b01_010_101#8 0#8 0#8 = .ldDL ∧ decode3 0b01_110_111#8 0#8 0#8 = .ldAtHlA := by decide
theorem test_decode_halt_slot : decode3 0b01_110_110#8 0#8 0#8 = .halt := by decide
theorem test_decode_inc_dec : -- 00 yyy 100, 00 yyy 101
    decode3 0b00_001_100#8 0#8 0#8 = .incC ∧ decode3 0b00_110_101#8 0#8 0#8 = .decAtHl := by decide
theorem test_decode_load_immediate : decode3 0b00_100_110#8 0x7F#8 0#8 = .ldHN8 0x7F#8 := by decide -- 00 yyy 110
theorem test_decode_pairs : -- 00 pp 0001, 00 pp 1001, 00 pp 0011, 00 pp 1011
    decode3 0b00_01_0001#8 0x34#8 0x12#8 = .ldDeN16 0x1234#16 ∧ decode3 0b00_11_1001#8 0#8 0#8 = .addHlSp ∧
    decode3 0b00_10_0011#8 0#8 0#8 = .incHl ∧ decode3 0b00_00_1011#8 0#8 0#8 = .decBc := by decide
theorem test_decode_jumps : -- 001 cc 000, 110 cc 010
    decode3 0b001_10_000#8 0x80#8 0#8 = .jrNcE8 0x80#8 ∧
    decode3 0b110_01_010#8 0x50#8 0x01#8 = .jpZN16 0x0150#16 := by decide
theorem test_decode_calls : -- 110 cc 100, 110 cc 000, 11 yyy 111
    decode3 0b110_11_100#8 0x00#8 0xC0#8 = .callCN16 0xC000#16 ∧ decode3 0b110_00_000#8 0#8 0#8 = .retNz ∧
    decode3 0b11_101_111#8 0#8 0#8 = .rst28 := by decide
theorem test_decode_stack : -- 11 pp 0101, 11 pp 0001
    decode3 0b11_11_0101#8 0#8 0#8 = .pushAf ∧ decode3 0b11_10_0001#8 0#8 0#8 = .popHl := by decide
theorem test_decode_rotate : -- 000 yy 111; CB 00 yyy zzz
    decode3 0b000_10_111#8 0#8 0#8 = .rla ∧ decode3 0xCB#8 0b00_101_110#8 0#8 = .sraAtHl := by decide
theorem test_decode_bits : -- CB 01 bbb zzz, CB 10 bbb zzz, CB 11 bbb zzz
    decode3 0xCB#8 0b01_011_111#8 0#8 = .bit3A ∧ decode3 0xCB#8 0b10_000_110#8 0#8 = .res0AtHl ∧
    decode3 0xCB#8 0b11_111_000#8 0#8 = .set7B := by decide
theorem test_decode_high_page : decode3 0b11_100_000#8 0x40#8 0#8 = .ldhAtN8A 0x40#8 := by decide
theorem test_decode_displacement : decode3 0b11_111_000#8 0xFE#8 0#8 = .ldHlSpE8 0xFE#8 := by decide
theorem test_decode_system : -- STOP has a second byte; DI; an undefined byte
    decode3 0b00_010_000#8 0x77#8 0#8 = .stop 0x77#8 ∧ decode3 0b11_110_011#8 0#8 0#8 = .di ∧
    decode3 0b11_101_101#8 0#8 0#8 = .illegalED := by decide
theorem test_decode_truncated : decodeBytes [0xCD#8, 0x00#8] = .truncated 0xCD#8 := by decide
theorem test_decode_no_bytes : decodeBytes [] = .noOpcode := by decide
theorem test_decode_prefix_alone : decodeBytes [0xCB#8] = .instr .prefixCb [] := by decide

/-! ### Decoding: every row of spec/opcode_table.json, its `match` byte with the operand bytes 0x34 and 0x12 -/

/-- The bytes decode to the instruction, and the encoder gives them back. -/
def decodesTo (r : List Byte × Instr) : Bool := decide (decodeBytes r.1 = .instr r.2 []) && decide (encode r.2 = r.1)

/-- Rows 0x00 to 0x1F of the base table. -/
def rowsBase00 : List (List Byte × Instr) := [
  ([0x00#8], .nop), ([0x01#8, 0x34#8, 0x12#8], .ldBcN16 0x1234#16), ([0x02#8], .ldAtBcA), ([0x03#8], .incBc),
  ([0x04#8], .incB), ([0x05#8], .decB), ([0x06#8, 0x34#8], .ldBN8 0x34#8), ([0x07#8], .rlca),
  ([0x08#8, 0x34#8, 0x12#8], .ldAtN16Sp 0x1234#16), ([0x09#8], .addHlBc), ([0x0A#8], .ldAAtBc), ([0x0B#8], .decBc),
  ([0x0C#8], .incC), ([0x0D#8], .decC), ([0x0E#8, 0x34#8], .ldCN8 0x34#8), ([0x0F#8], .rrca),
  ([0x10#8, 0x34#8], .stop 0x34#8), ([0x11#8, 0x34#8, 0x12#8], .ldDeN16 0x1234#16), ([0x12#8], .ldAtDeA),
  ([0x13#8], .incDe), ([0x14#8], .incD), ([0x15#8], .decD), ([0x16#8, 0x34#8], .ldDN8 0x34#8), ([0x17#8], .rla),
  ([0x18#8, 0x34#8], .jrE8 0x34#8), ([0x19#8], .addHlDe), ([0x1A#8], .ldAAtDe), ([0x1B#8], .decDe),
  ([0x1C#8], .incE), ([0x1D#8], .decE), ([0x1E#8, 0x34#8], .ldEN8 0x34#8), ([0x1F#8], .rra) ]

theorem test_rowsBase00 : rowsBase00.all decodesTo = true := by decide +kernel

/-- Rows 0x20 to 0x3F of the base table. -/
def rowsBase20 : List (List Byte × Instr) := [
  ([0x20#8, 0x34#8], .jrNzE8 0x34#8), ([0x21#8, 0x34#8, 0x12#8], .ldHlN16 0x1234#16), ([0x22#8], .ldAtHlIncA),
  ([0x23#8], .incHl), ([0x24#8], .incH), ([0x25#8], .decH), ([0x26#8, 0x34#8], .ldHN8 0x34#8), ([0x27#8], .daa),
  ([0x28#8, 0x34#8], .jrZE8 0x34#8), ([0x29#8], .addHlHl), ([0x2A#8], .ldAAtHlInc), ([0x2B#8], .decHl),
  ([0x2C#8], .incL), ([0x2D#8], .decL), ([0x2E#8, 0x34#8], .ldLN8 0x34#8), ([0x2F#8], .cpl),
  ([0x30#8, 0x34#8], .jrNcE8 0x34#8), ([0x31#8, 0x34#8, 0x12#8], .ldSpN16 0x1234#16), ([0x32#8], .ldAtHlDecA),
  ([0x33#8], .incSp), ([0x34#8], .incAtHl), ([0x35#8], .decAtHl), ([0x36#8, 0x34#8], .ldAtHlN8 0x34#8),
  ([0x37#8], .scf), ([0x38#8, 0x34#8], .jrCE8 0x34#8), ([0x39#8], .addHlSp), ([0x3A#8], .ldAAtHlDec),
  ([0x3B#8], .decSp), ([0x3C#8], .incA), ([0x3D#8], .decA), ([0x3E#8, 0x34#8], .ldAN8 0x34#8), ([0x3F#8], .ccf) ]

theorem test_rowsBase20 : rowsBase20.all decodesTo = true := by decide +kernel

/-- Rows 0x40 to 0x5F of the base table. -/
def rowsBase40 : List (List Byte × Instr) := [
  ([0x40#8], .ldBB), ([0x41#8], .ldBC), ([0x42#8], .ldBD), ([0x43#8], .ldBE), ([0x44#8], .ldBH), ([0x45#8], .ldBL),
  ([0x46#8], .ldBAtHl), ([0x47#8], .ldBA), ([0x48#8], .ldCB), ([0x49#8], .ldCC), ([0x4A#8], .ldCD),
  ([0x4B#8], .ldCE), ([0x4C#8], .ldCH), ([0x4D#8], .ldCL), ([0x4E#8], .ldCAtHl), ([0x4F#8], .ldCA),
  ([0x50#8], .ldDB), ([0x51#8], .ldDC), ([0x52#8], .ldDD), ([0x53#8], .ldDE), ([0x54#8], .ldDH), ([0x55#8], .ldDL),
  ([0x56#8], .ldDAtHl), ([0x57#8], .ldDA), ([0x58#8], .ldEB), ([0x59#8], .ldEC), ([0x5A#8], .ldED),
  ([0x5B#8], .ldEE), ([0x5C#8], .ldEH), ([0x5D#8], .ldEL), ([0x5E#8], .ldEAtHl), ([0x5F#8], .ldEA) ]

theorem test_rowsBase40 : rowsBase40.all decodesTo = true := by decide +kernel

/-- Rows 0x60 to 0x7F of the base table. -/
def rowsBase60 : List (List Byte × Instr) := [
  ([0x60#8], .ldHB), ([0x61#8], .ldHC), ([0x62#8], .ldHD), ([0x63#8], .ldHE), ([0x64#8], .ldHH), ([0x65#8], .ldHL),
  ([0x66#8], .ldHAtHl), ([0x67#8], .ldHA), ([0x68#8], .ldLB), ([0x69#8], .ldLC), ([0x6A#8], .ldLD),
  ([0x6B#8], .ldLE), ([0x6C#8], .ldLH), ([0x6D#8], .ldLL), ([0x6E#8], .ldLAtHl), ([0x6F#8], .ldLA),
  ([0x70#8], .ldAtHlB), ([0x71#8], .ldAtHlC), ([0x72#8], .ldAtHlD), ([0x73#8], .ldAtHlE), ([0x74#8], .ldAtHlH),
  ([0x75#8], .ldAtHlL), ([0x76#8], .halt), ([0x77#8], .ldAtHlA), ([0x78#8], .ldAB), ([0x79#8], .ldAC),
  ([0x7A#8], .ldAD), ([0x7B#8], .ldAE), ([0x7C#8], .ldAH), ([0x7D#8], .ldAL), ([0x7E#8], .ldAAtHl),
  ([0x7F#8], .ldAA) ]

theorem test_rowsBase60 : rowsBase60.all decodesTo = true := by decide +kernel

/-- Rows 0x80 to 0x9F of the base table. -/
def rowsBase80 : List (List Byte × Instr) := [
  ([0x80#8], .addAB), ([0x81#8], .addAC), ([0x82#8], .addAD), ([0x83#8], .addAE), ([0x84#8], .addAH),
  ([0x85#8], .addAL), ([0x86#8], .addAAtHl), ([0x87#8], .addAA), ([0x88#8], .adcAB), ([0x89#8], .adcAC),
  ([0x8A#8], .adcAD), ([0x8B#8], .adcAE), ([0x8C#8], .adcAH), ([0x8D#8], .adcAL), ([0x8E#8], .adcAAtHl),
  ([0x8F#8], .adcAA), ([0x90#8], .subAB), ([0x91#8], .subAC), ([0x92#8], .subAD), ([0x93#8], .subAE),
  ([0x94#8], .subAH), ([0x95#8], .subAL), ([0x96#8], .subAAtHl), ([0x97#8], .subAA), ([0x98#8], .sbcAB),
  ([0x99#8], .sbcAC), ([0x9A#8], .sbcAD), ([0x9B#8], .sbcAE), ([0x9C#8], .sbcAH), ([0x9D#8], .sbcAL),
  ([0x9E#8], .sbcAAtHl), ([0x9F#8], .sbcAA) ]

theorem test_rowsBase80 : rowsBase80.all decodesTo = true := by decide +kernel

/-- Rows 0xA0 to 0xBF of the base table. -/
def rowsBaseA0 : List (List Byte × Instr) := [
  ([0xA0#8], .andAB), ([0xA1#8], .andAC), ([0xA2#8], .andAD), ([0xA3#8], .andAE), ([0xA4#8], .andAH),
  ([0xA5#8], .andAL), ([0xA6#8], .andAAtHl), ([0xA7#8], .andAA), ([0xA8#8], .xorAB), ([0xA9#8], .xorAC),
  ([0xAA#8], .xorAD), ([0xAB#8], .xorAE), ([0xAC#8], .xorAH), ([0xAD#8], .xorAL), ([0xAE#8], .xorAAtHl),
  ([0xAF#8], .xorAA), ([0xB0#8], .orAB), ([0xB1#8], .orAC), ([0xB2#8], .orAD), ([0xB3#8], .orAE),
  ([0xB4#8], .orAH), ([0xB5#8], .orAL), ([0xB6#8], .orAAtHl), ([0xB7#8], .orAA), ([0xB8#8], .cpAB),
  ([0xB9#8], .cpAC), ([0xBA#8], .cpAD), ([0xBB#8], .cpAE), ([0xBC#8], .cpAH), ([0xBD#8], .cpAL),
  ([0xBE#8], .cpAAtHl), ([0xBF#8], .cpAA) ]

theorem test_rowsBaseA0 : rowsBaseA0.all decodesTo = true := by decide +kernel

/-- Rows 0xC0 to 0xDF of the base table. -/
def rowsBaseC0 : List (List Byte × Instr) := [
  ([0xC0#8], .retNz), ([0xC1#8], .popBc), ([0xC2#8, 0x34#8, 0x12#8], .jpNzN16 0x1234#16),
  ([0xC3#8, 0x34#8, 0x12#8], .jpN16 0x1234#16), ([0xC4#8, 0x34#8, 0x12#8], .callNzN16 0x1234#16),
  ([0xC5#8], .pushBc), ([0xC6#8, 0x34#8], .addAN8 0x34#8), ([0xC7#8], .rst00), ([0xC8#8], .retZ), ([0xC9#8], .ret),
  ([0xCA#8, 0x34#8, 0x12#8], .jpZN16 0x1234#16), ([0xCB#8], .prefixCb),
  ([0xCC#8, 0x34#8, 0x12#8], .callZN16 0x1234#16), ([0xCD#8, 0x34#8, 0x12#8], .callN16 0x1234#16),
  ([0xCE#8, 0x34#8], .adcAN8 0x34#8), ([0xCF#8], .rst08), ([0xD0#8], .retNc), ([0xD1#8], .popDe),
  ([0xD2#8, 0x34#8, 0x12#8], .jpNcN16 0x1234#16), ([0xD3#8], .illegalD3),
  ([0xD4#8, 0x34#8, 0x12#8], .callNcN16 0x1234#16), ([0xD5#8], .pushDe), ([0xD6#8, 0x34#8], .subAN8 0x34#8),
  ([0xD7#8], .rst10), ([0xD8#8], .retC), ([0xD9#8], .reti), ([0xDA#8, 0x34#8, 0x12#8], .jpCN16 0x1234#16),
  ([0xDB#8], .illegalDB), ([0xDC#8, 0x34#8, 0x12#8], .callCN16 0x1234#16), ([0xDD#8], .illegalDD),
  ([0xDE#8, 0x34#8], .sbcAN8 0x34#8), ([0xDF#8], .rst18) ]

theorem test_rowsBaseC0 : rowsBaseC0.all decodesTo = true := by decide +kernel

/-- Rows 0xE0 to 0xFF of the base table. -/
def rowsBaseE0 : List (List Byte × Instr) := [
  ([0xE0#8, 0x34#8], .ldhAtN8A 0x34#8), ([0xE1#8], .popHl), ([0xE2#8], .ldAtCA), ([0xE3#8], .illegalE3),
  ([0xE4#8], .illegalE4), ([0xE5#8], .pushHl), ([0xE6#8, 0x34#8], .andAN8 0x34#8), ([0xE7#8], .rst20),
  ([0xE8#8, 0x34#8], .addSpE8 0x34#8), ([0xE9#8], .jpHl), ([0xEA#8, 0x34#8, 0x12#8], .ldAtN16A 0x1234#16),
  ([0xEB#8], .illegalEB), ([0xEC#8], .illegalEC), ([0xED#8], .illegalED), ([0xEE#8, 0x34#8], .xorAN8 0x34#8),
  ([0xEF#8], .rst28), ([0xF0#8, 0x34#8], .ldhAAtN8 0x34#8), ([0xF1#8], .popAf), ([0xF2#8], .ldAAtC),
  ([0xF3#8], .di), ([0xF4#8], .illegalF4), ([0xF5#8], .pushAf), ([0xF6#8, 0x34#8], .orAN8 0x34#8),
  ([0xF7#8], .rst30), ([0xF8#8, 0x34#8], .ldHlSpE8 0x34#8), ([0xF9#8], .ldSpHl),
  ([0xFA#8, 0x34#8, 0x12#8], .ldAAtN16 0x1234#16), ([0xFB#8], .ei), ([0xFC#8], .illegalFC), ([0xFD#8], .illegalFD),
  ([0xFE#8, 0x34#8], .cpAN8 0x34#8), ([0xFF#8], .rst38) ]

theorem test_rowsBaseE0 : rowsBaseE0.all decodesTo = true := by decide +kernel

/-- Rows 0x00 to 0x1F of the CB table. -/
def rowsCb00 : List (List Byte × Instr) := [
  ([0xCB#8, 0x00#8], .rlcB), ([0xCB#8, 0x01#8], .rlcC), ([0xCB#8, 0x02#8], .rlcD), ([0xCB#8, 0x03#8], .rlcE),
  ([0xCB#8, 0x04#8], .rlcH), ([0xCB#8, 0x05#8], .rlcL), ([0xCB#8, 0x06#8], .rlcAtHl), ([0xCB#8, 0x07#8], .rlcA),
  ([0xCB#8, 0x08#8], .rrcB), ([0xCB#8, 0x09#8], .rrcC), ([0xCB#8, 0x0A#8], .rrcD), ([0xCB#8, 0x0B#8], .rrcE),
  ([0xCB#8, 0x0C#8], .rrcH), ([0xCB#8, 0x0D#8], .rrcL), ([0xCB#8, 0x0E#8], .rrcAtHl), ([0xCB#8, 0x0F#8], .rrcA),
  ([0xCB#8, 0x10#8], .rlB), ([0xCB#8, 0x11#8], .rlC), ([0xCB#8, 0x12#8], .rlD), ([0xCB#8, 0x13#8], .rlE),
  ([0xCB#8, 0x14#8], .rlH), ([0xCB#8, 0x15#8], .rlL), ([0xCB#8, 0x16#8], .rlAtHl), ([0xCB#8, 0x17#8], .rlA),
  ([0xCB#8, 0x18#8], .rrB), ([0xCB#8, 0x19#8], .rrC), ([0xCB#8, 0x1A#8], .rrD), ([0xCB#8, 0x1B#8], .rrE),
  ([0xCB#8, 0x1C#8], .rrH), ([0xCB#8, 0x1D#8], .rrL), ([0xCB#8, 0x1E#8], .rrAtHl), ([0xCB#8, 0x1F#8], .rrA) ]

theorem test_rowsCb00 : rowsCb00.all decodesTo = true := by decide +kernel

/-- Rows 0x20 to 0x3F of the CB table. -/
def rowsCb20 : List (List Byte × Instr) := [
  ([0xCB#8, 0x20#8], .slaB), ([0xCB#8, 0x21#8], .slaC), ([0xCB#8, 0x22#8], .slaD), ([0xCB#8, 0x23#8], .slaE),
  ([0xCB#8, 0x24#8], .slaH), ([0xCB#8, 0x25#8], .slaL), ([0xCB#8, 0x26#8], .slaAtHl), ([0xCB#8, 0x27#8], .slaA),
  ([0xCB#8, 0x28#8], .sraB), ([0xCB#8, 0x29#8], .sraC), ([0xCB#8, 0x2A#8], .sraD), ([0xCB#8, 0x2B#8], .sraE),
  ([0xCB#8, 0x2C#8], .sraH), ([0xCB#8, 0x2D#8], .sraL), ([0xCB#8, 0x2E#8], .sraAtHl), ([0xCB#8, 0x2F#8], .sraA),
  ([0xCB#8, 0x30#8], .swapB), ([0xCB#8, 0x31#8], .swapC), ([0xCB#8, 0x32#8], .swapD), ([0xCB#8, 0x33#8], .swapE),
  ([0xCB#8, 0x34#8], .swapH), ([0xCB#8, 0x35#8], .swapL), ([0xCB#8, 0x36#8], .swapAtHl),
  ([0xCB#8, 0x37#8], .swapA), ([0xCB#8, 0x38#8], .srlB), ([0xCB#8, 0x39#8], .srlC), ([0xCB#8, 0x3A#8], .srlD),
  ([0xCB#8, 0x3B#8], .srlE), ([0xCB#8, 0x3C#8], .srlH), ([0xCB#8, 0x3D#8], .srlL), ([0xCB#8, 0x3E#8], .srlAtHl),
  ([0xCB#8, 0x3F#8], .srlA) ]

theorem test_rowsCb20 : rowsCb20.all decodesTo = true := by decide +kernel

/-- Rows 0x40 to 0x5F of the CB table. -/
def rowsCb40 : List (List Byte × Instr) := [
  ([0xCB#8, 0x40#8], .bit0B), ([0xCB#8, 0x41#8], .bit0C), ([0xCB#8, 0x42#8], .bit0D), ([0xCB#8, 0x43#8], .bit0E),
  ([0xCB#8, 0x44#8], .bit0H), ([0xCB#8, 0x45#8], .bit0L), ([0xCB#8, 0x46#8], .bit0AtHl),
  ([0xCB#8, 0x47#8], .bit0A), ([0xCB#8, 0x48#8], .bit1B), ([0xCB#8, 0x49#8], .bit1C), ([0xCB#8, 0x4A#8], .bit1D),
  ([0xCB#8, 0x4B#8], .bit1E), ([0xCB#8, 0x4C#8], .bit1H), ([0xCB#8, 0x4D#8], .bit1L),
  ([0xCB#8, 0x4E#8], .bit1AtHl), ([0xCB#8, 0x4F#8], .bit1A), ([0xCB#8, 0x50#8], .bit2B),
  ([0xCB#8, 0x51#8], .bit2C), ([0xCB#8, 0x52#8], .bit2D), ([0xCB#8, 0x53#8], .bit2E), ([0xCB#8, 0x54#8], .bit2H),
  ([0xCB#8, 0x55#8], .bit2L), ([0xCB#8, 0x56#8], .bit2AtHl), ([0xCB#8, 0x57#8], .bit2A),
  ([0xCB#8, 0x58#8], .bit3B), ([0xCB#8, 0x59#8], .bit3C), ([0xCB#8, 0x5A#8], .bit3D), ([0xCB#8, 0x5B#8], .bit3E),
  ([0xCB#8, 0x5C#8], .bit3H), ([0xCB#8, 0x5D#8], .bit3L), ([0xCB#8, 0x5E#8], .bit3AtHl),
  ([0xCB#8, 0x5F#8], .bit3A) ]

theorem test_rowsCb40 : rowsCb40.all decodesTo = true := by decide +kernel

/-- Rows 0x60 to 0x7F of the CB table. -/
def rowsCb60 : List (List Byte × Instr) := [
  ([0xCB#8, 0x60#8], .bit4B), ([0xCB#8, 0x61#8], .bit4C), ([0xCB#8, 0x62#8], .bit4D), ([0xCB#8, 0x63#8], .bit4E),
  ([0xCB#8, 0x64#8], .bit4H), ([0xCB#8, 0x65#8], .bit4L), ([0xCB#8, 0x66#8], .bit4AtHl),
  ([0xCB#8, 0x67#8], .bit4A), ([0xCB#8, 0x68#8], .bit5B), ([0xCB#8, 0x69#8], .bit5C), ([0xCB#8, 0x6A#8], .bit5D),
  ([0xCB#8, 0x6B#8], .bit5E), ([0xCB#8, 0x6C#8], .bit5H), ([0xCB#8, 0x6D#8], .bit5L),
  ([0xCB#8, 0x6E#8], .bit5AtHl), ([0xCB#8, 0x6F#8], .bit5A), ([0xCB#8, 0x70#8], .bit6B),
  ([0xCB#8, 0x71#8], .bit6C), ([0xCB#8, 0x72#8], .bit6D), ([0xCB#8, 0x73#8], .bit6E), ([0xCB#8, 0x74#8], .bit6H),
  ([0xCB#8, 0x75#8], .bit6L), ([0xCB#8, 0x76#8], .bit6AtHl), ([0xCB#8, 0x77#8], .bit6A),
  ([0xCB#8, 0x78#8], .bit7B), ([0xCB#8, 0x79#8], .bit7C), ([0xCB#8, 0x7A#8], .bit7D), ([0xCB#8, 0x7B#8], .bit7E),
  ([0xCB#8, 0x7C#8], .bit7H), ([0xCB#8, 0x7D#8], .bit7L), ([0xCB#8, 0x7E#8], .bit7AtHl),
  ([0xCB#8, 0x7F#8], .bit7A) ]

theorem test_rowsCb60 : rowsCb60.all decodesTo = true := by decide +kernel

/-- Rows 0x80 to 0x9F of the CB table. -/
def rowsCb80 : List (List Byte × Instr) := [
  ([0xCB#8, 0x80#8], .res0B), ([0xCB#8, 0x81#8], .res0C), ([0xCB#8, 0x82#8], .res0D), ([0xCB#8, 0x83#8], .res0E),
  ([0xCB#8, 0x84#8], .res0H), ([0xCB#8, 0x85#8], .res0L), ([0xCB#8, 0x86#8], .res0AtHl),
  ([0xCB#8, 0x87#8], .res0A), ([0xCB#8, 0x88#8], .res1B), ([0xCB#8, 0x89#8], .res1C), ([0xCB#8, 0x8A#8], .res1D),
  ([0xCB#8, 0x8B#8], .res1E), ([0xCB#8, 0x8C#8], .res1H), ([0xCB#8, 0x8D#8], .res1L),
  ([0xCB#8, 0x8E#8], .res1AtHl), ([0xCB#8, 0x8F#8], .res1A), ([0xCB#8, 0x90#8], .res2B),
  ([0xCB#8, 0x91#8], .res2C), ([0xCB#8, 0x92#8], .res2D), ([0xCB#8, 0x93#8], .res2E), ([0xCB#8, 0x94#8], .res2H),
  ([0xCB#8, 0x95#8], .res2L), ([0xCB#8, 0x96#8], .res2AtHl), ([0xCB#8, 0x97#8], .res2A),
  ([0xCB#8, 0x98#8], .res3B), ([0xCB#8, 0x99#8], .res3C), ([0xCB#8, 0x9A#8], .res3D), ([0xCB#8, 0x9B#8], .res3E),
  ([0xCB#8, 0x9C#8], .res3H), ([0xCB#8, 0x9D#8], .res3L), ([0xCB#8, 0x9E#8], .res3AtHl),
  ([0xCB#8, 0x9F#8], .res3A) ]

theorem test_rowsCb80 : rowsCb80.all decodesTo = true := by decide +kernel

/-- Rows 0xA0 to 0xBF of the CB table. -/
def rowsCbA0 : List (List Byte × Instr) := [
  ([0xCB#8, 0xA0#8], .res4B), ([0xCB#8, 0xA1#8], .res4C), ([0xCB#8, 0xA2#8], .res4D), ([0xCB#8, 0xA3#8], .res4E),
  ([0xCB#8, 0xA4#8], .res4H), ([0xCB#8, 0xA5#8], .res4L), ([0xCB#8, 0xA6#8], .res4AtHl),
  ([0xCB#8, 0xA7#8], .res4A), ([0xCB#8, 0xA8#8], .res5B), ([0xCB#8, 0xA9#8], .res5C), ([0xCB#8, 0xAA#8], .res5D),
  ([0xCB#8, 0xAB#8], .res5E), ([0xCB#8, 0xAC#8], .res5H), ([0xCB#8, 0xAD#8], .res5L),
  ([0xCB#8, 0xAE#8], .res5AtHl), ([0xCB#8, 0xAF#8], .res5A), ([0xCB#8, 0xB0#8], .res6B),
  ([0xCB#8, 0xB1#8], .res6C), ([0xCB#8, 0xB2#8], .res6D), ([0xCB#8, 0xB3#8], .res6E), ([0xCB#8, 0xB4#8], .res6H),
  ([0xCB#8, 0xB5#8], .res6L), ([0xCB#8, 0xB6#8], .res6AtHl), ([0xCB#8, 0xB7#8], .res6A),
  ([0xCB#8, 0xB8#8], .res7B), ([0xCB#8, 0xB9#8], .res7C), ([0xCB#8, 0xBA#8], .res7D), ([0xCB#8, 0xBB#8], .res7E),
  ([0xCB#8, 0xBC#8], .res7H), ([0xCB#8, 0xBD#8], .res7L), ([0xCB#8, 0xBE#8], .res7AtHl),
  ([0xCB#8, 0xBF#8], .res7A) ]

theorem test_rowsCbA0 : rowsCbA0.all decodesTo = true := by decide +kernel

/-- Rows 0xC0 to 0xDF of the CB table. -/
def rowsCbC0 : List (List Byte × Instr) := [
  ([0xCB#8, 0xC0#8], .set0B), ([0xCB#8, 0xC1#8], .set0C), ([0xCB#8, 0xC2#8], .set0D), ([0xCB#8, 0xC3#8], .set0E),
  ([0xCB#8, 0xC4#8], .set0H), ([0xCB#8, 0xC5#8], .set0L), ([0xCB#8, 0xC6#8], .set0AtHl),
  ([0xCB#8, 0xC7#8], .set0A), ([0xCB#8, 0xC8#8], .set1B), ([0xCB#8, 0xC9#8], .set1C), ([0xCB#8, 0xCA#8], .set1D),
  ([0xCB#8, 0xCB#8], .set1E), ([0xCB#8, 0xCC#8], .set1H), ([0xCB#8, 0xCD#8], .set1L),
  ([0xCB#8, 0xCE#8], .set1AtHl), ([0xCB#8, 0xCF#8], .set1A), ([0xCB#8, 0xD0#8], .set2B),
  ([0xCB#8, 0xD1#8], .set2C), ([0xCB#8, 0xD2#8], .set2D), ([0xCB#8, 0xD3#8], .set2E), ([0xCB#8, 0xD4#8], .set2H),
  ([0xCB#8, 0xD5#8], .set2L), ([0xCB#8, 0xD6#8], .set2AtHl), ([0xCB#8, 0xD7#8], .set2A),
  ([0xCB#8, 0xD8#8], .set3B), ([0xCB#8, 0xD9#8], .set3C), ([0xCB#8, 0xDA#8], .set3D), ([0xCB#8, 0xDB#8], .set3E),
  ([0xCB#8, 0xDC#8], .set3H), ([0xCB#8, 0xDD#8], .set3L), ([0xCB#8, 0xDE#8], .set3AtHl),
  ([0xCB#8, 0xDF#8], .set3A) ]

theorem test_rowsCbC0 : rowsCbC0.all decodesTo = true := by decide +kernel

/-- Rows 0xE0 to 0xFF of the CB table. -/
def rowsCbE0 : List (List Byte × Instr) := [
  ([0xCB#8, 0xE0#8], .set4B), ([0xCB#8, 0xE1#8], .set4C), ([0xCB#8, 0xE2#8], .set4D), ([0xCB#8, 0xE3#8], .set4E),
  ([0xCB#8, 0xE4#8], .set4H), ([0xCB#8, 0xE5#8], .set4L), ([0xCB#8, 0xE6#8], .set4AtHl),
  ([0xCB#8, 0xE7#8], .set4A), ([0xCB#8, 0xE8#8], .set5B), ([0xCB#8, 0xE9#8], .set5C), ([0xCB#8, 0xEA#8], .set5D),
  ([0xCB#8, 0xEB#8], .set5E), ([0xCB#8, 0xEC#8], .set5H), ([0xCB#8, 0xED#8], .set5L),
  ([0xCB#8, 0xEE#8], .set5AtHl), ([0xCB#8, 0xEF#8], .set5A), ([0xCB#8, 0xF0#8], .set6B),
  ([0xCB#8, 0xF1#8], .set6C), ([0xCB#8, 0xF2#8], .set6D), ([0xCB#8, 0xF3#8], .set6E), ([0xCB#8, 0xF4#8], .set6H),
  ([0xCB#8, 0xF5#8], .set6L), ([0xCB#8, 0xF6#8], .set6AtHl), ([0xCB#8, 0xF7#8], .set6A),
  ([0xCB#8, 0xF8#8], .set7B), ([0xCB#8, 0xF9#8], .set7C), ([0xCB#8, 0xFA#8], .set7D), ([0xCB#8, 0xFB#8], .set7E),
  ([0xCB#8, 0xFC#8], .set7H), ([0xCB#8, 0xFD#8], .set7L), ([0xCB#8, 0xFE#8], .set7AtHl),
  ([0xCB#8, 0xFF#8], .set7A) ]

theorem test_rowsCbE0 : rowsCbE0.all decodesTo = true := by decide +kernel

/-! ### One step on a small state

A state for tests: the base state of spec/95_test_vectors.md section 0, which is POST_BOOT with a blank 32 KiB ROM. -/

/-- The base state. -/
def baseState : State := postBoot (State.powerOn [] [] 0x8000 .noMbc Params.default)

/-- A field of the state that a vector sets or expects. -/
inductive Item where
  | a (v : Byte) | b (v : Byte) | c (v : Byte) | d (v : Byte) | e (v : Byte) | h (v : Byte) | l (v : Byte) | f (v : Byte)
  | bc (v : Word) | de (v : Word) | hl (v : Word) | sp (v : Word) | pc (v : Word)
  | ime (v : Bool) | eiPending | run (r : RunState) | fault (op : Byte)
  | ie (v : Byte) | mem (w : Word) (v : Byte)

/-- The state with the item's value. -/
def Item.put (s : State) : Item → State
  | .a v => setReg .a v s
  | .b v => setReg .b v s
  | .c v => setReg .c v s
  | .d v => setReg .d v s
  | .e v => setReg .e v s
  | .h v => setReg .h v s
  | .l v => setReg .l v s
  | .f v => setFlags ⟨v.getLsbD 7, v.getLsbD 6, v.getLsbD 5, v.getLsbD 4⟩ s
  | .bc v => setReg .b (hiByte v) (setReg .c (loByte v) s)
  | .de v => setReg .d (hiByte v) (setReg .e (loByte v) s)
  | .hl v => setReg .h (hiByte v) (setReg .l (loByte v) s)
  | .sp v => setSp v s
  | .pc v => setPc v s
  | .ime v => setIme v s
  | .eiPending => setEiPending s
  | .run r => setRunState r s
  | .fault op => raiseFault (.unhandledOpcode op) s
  | .ie v => { s with ie := v }
  | .mem w v => write8 w v s

/-- One step from the base state: the instruction's bytes at 0xC000, what differs at the start, what the instruction
changed, and its cycles. -/
structure StepCase where
  bytes : List Byte
  start : List Item
  changed : List Item
  cycles : Nat

/-- Bytes written one after another from an address on. -/
def putBytes : Word → List Byte → State → State
  | _, [], s => s
  | a, b :: bs, s => putBytes (a + 1#16) bs (write8 a b s)

/-- The state a case starts from. -/
def StepCase.before (t : StepCase) : State := putBytes 0xC000#16 t.bytes (t.start.foldl Item.put (setPc 0xC000#16 baseState))

/-- The state a case expects, the devices' clocks apart; PC is past the instruction unless the case names it. -/
def StepCase.after (t : StepCase) : State :=
  t.changed.foldl Item.put (setPc (0xC000#16 + BitVec.ofNat 16 t.bytes.length) t.before)

/-- What a step answers, where it is a next state. -/
def nextOf (r : Result) : Option State := match r with | .next s => some s | _ => none

/-- The case holds: the processor, the arrays, IF and IE are the expected ones, and the devices were ticked by the
cycles. -/
def StepCase.holds (t : StepCase) : Bool :=
  match nextOf (step t.before) with
  | some s =>
    decide (s.cpu = t.after.cpu) && decide (s.arrays = t.after.arrays) && decide (s.ifReg = t.after.ifReg) &&
    decide (s.ie = t.after.ie) && decide (s.timer.tac = t.after.timer.tac) && decide (s.timer.divAcc = t.cycles) &&
    decide (s.ppu.acc = t.cycles)
  | none => false

/-- Vectors V401 to V409 of spec/95_test_vectors.md. -/
def alu8ACases : List StepCase := [
  ⟨[0xC6#8, 0x01#8], [.a 0x0F#8], [.a 0x10#8, .f 0x20#8], 8⟩, -- V401
  ⟨[0xC6#8, 0x01#8], [.a 0xFF#8], [.a 0x00#8, .f 0xB0#8], 8⟩, -- V402
  ⟨[0x80#8], [.a 0x80#8, .b 0x80#8], [.a 0x00#8, .f 0x90#8], 4⟩, -- V403
  ⟨[0x86#8], [.a 0x12#8, .hl 0xC100#16, .mem 0xC100#16 0x34#8], [.a 0x46#8, .f 0x00#8], 8⟩, -- V404
  ⟨[0xCE#8, 0x0F#8], [.a 0x00#8, .f 0x10#8], [.a 0x10#8, .f 0x20#8], 8⟩, -- V405
  ⟨[0x88#8], [.a 0xFF#8, .b 0x00#8, .f 0x10#8], [.a 0x00#8, .f 0xB0#8], 4⟩, -- V406
  ⟨[0xD6#8, 0x01#8], [.a 0x10#8], [.a 0x0F#8, .f 0x60#8], 8⟩, -- V407
  ⟨[0xD6#8, 0x01#8], [.a 0x00#8], [.a 0xFF#8, .f 0x70#8], 8⟩, -- V408
  ⟨[0x97#8], [.a 0x5A#8], [.a 0x00#8, .f 0xC0#8], 4⟩ ] -- V409

theorem test_alu8A : alu8ACases.all StepCase.holds = true := by decide +kernel

/-- Vectors V410 to V419 of spec/95_test_vectors.md. -/
def alu8BCases : List StepCase := [
  ⟨[0xDE#8, 0x00#8], [.a 0x00#8, .f 0x10#8], [.a 0xFF#8, .f 0x70#8], 8⟩, -- V410
  ⟨[0x98#8], [.a 0x10#8, .b 0x0F#8, .f 0x10#8], [.a 0x00#8, .f 0xE0#8], 4⟩, -- V411
  ⟨[0xE6#8, 0x0F#8], [.a 0xF0#8, .f 0x10#8], [.a 0x00#8, .f 0xA0#8], 8⟩, -- V412
  ⟨[0xAF#8], [.a 0x5A#8, .f 0xF0#8], [.a 0x00#8, .f 0x80#8], 4⟩, -- V413
  ⟨[0xF6#8, 0x81#8], [.a 0x00#8, .f 0x70#8], [.a 0x81#8, .f 0x00#8], 8⟩, -- V414
  ⟨[0xFE#8, 0x42#8], [.a 0x42#8], [.a 0x42#8, .f 0xC0#8], 8⟩, -- V415
  ⟨[0xFE#8, 0x43#8], [.a 0x42#8], [.a 0x42#8, .f 0x70#8], 8⟩, -- V416
  ⟨[0xBE#8], [.a 0x10#8, .hl 0xC100#16, .mem 0xC100#16 0x01#8], [.a 0x10#8, .f 0x60#8], 8⟩, -- V417
  ⟨[0x04#8], [.b 0x0F#8, .f 0x10#8], [.b 0x10#8, .f 0x30#8], 4⟩, -- V418
  ⟨[0x3C#8], [.a 0xFF#8], [.a 0x00#8, .f 0xA0#8], 4⟩ ] -- V419

theorem test_alu8B : alu8BCases.all StepCase.holds = true := by decide +kernel

/-- Vectors V420 to V429 of spec/95_test_vectors.md. -/
def alu8CCases : List StepCase := [
  ⟨[0x05#8], [.b 0x01#8], [.b 0x00#8, .f 0xC0#8], 4⟩, -- V420
  ⟨[0x0D#8], [.c 0x00#8, .f 0x10#8], [.c 0xFF#8, .f 0x70#8], 4⟩, -- V421
  ⟨[0x34#8], [.hl 0xC100#16, .mem 0xC100#16 0xFF#8], [.mem 0xC100#16 0x00#8, .f 0xA0#8], 12⟩, -- V422
  ⟨[0x35#8], [.hl 0xC100#16, .mem 0xC100#16 0x10#8], [.mem 0xC100#16 0x0F#8, .f 0x60#8], 12⟩, -- V423
  ⟨[0x27#8], [.a 0x7D#8, .f 0x00#8], [.a 0x83#8, .f 0x00#8], 4⟩, -- V424
  ⟨[0x27#8], [.a 0x9A#8, .f 0x00#8], [.a 0x00#8, .f 0x90#8], 4⟩, -- V425
  ⟨[0x27#8], [.a 0x00#8, .f 0x30#8], [.a 0x66#8, .f 0x10#8], 4⟩, -- V426
  ⟨[0x27#8], [.a 0x0F#8, .f 0x60#8], [.a 0x09#8, .f 0x40#8], 4⟩, -- V427
  ⟨[0x27#8], [.a 0xA0#8, .f 0x50#8], [.a 0x40#8, .f 0x50#8], 4⟩, -- V428
  ⟨[0x2F#8], [.a 0x35#8, .f 0x90#8], [.a 0xCA#8, .f 0xF0#8], 4⟩ ] -- V429

theorem test_alu8C : alu8CCases.all StepCase.holds = true := by decide +kernel

/-- Vectors V430 to V432 of spec/95_test_vectors.md. -/
def alu8DCases : List StepCase := [
  ⟨[0x37#8], [.f 0xE0#8], [.a 0x00#8, .f 0x90#8], 4⟩, -- V430
  ⟨[0x3F#8], [.f 0x10#8], [.a 0x00#8, .f 0x00#8], 4⟩, -- V431
  ⟨[0x3F#8], [.f 0x80#8], [.a 0x00#8, .f 0x90#8], 4⟩ ] -- V432

theorem test_alu8D : alu8DCases.all StepCase.holds = true := by decide +kernel

/-- Vectors V450 to V459 of spec/95_test_vectors.md. -/
def alu16Cases : List StepCase := [
  ⟨[0x09#8], [.hl 0x0FFF#16, .bc 0x0001#16, .f 0x80#8], [.hl 0x1000#16, .f 0xA0#8], 8⟩, -- V450
  ⟨[0x29#8], [.hl 0x8000#16], [.hl 0x0000#16, .f 0x10#8], 8⟩, -- V451
  ⟨[0x39#8], [.hl 0xFFFF#16, .sp 0x0001#16], [.hl 0x0000#16, .f 0x30#8], 8⟩, -- V452
  ⟨[0x03#8], [.bc 0xFFFF#16, .f 0xF0#8], [.bc 0x0000#16, .f 0xF0#8], 8⟩, -- V453
  ⟨[0x1B#8], [.de 0x0000#16], [.de 0xFFFF#16, .f 0x00#8], 8⟩, -- V454
  ⟨[0xE8#8, 0x01#8], [.sp 0x00FF#16], [.sp 0x0100#16, .f 0x30#8], 16⟩, -- V455
  ⟨[0xE8#8, 0xFF#8], [.sp 0x0000#16], [.sp 0xFFFF#16, .f 0x00#8], 16⟩, -- V456
  ⟨[0xE8#8, 0xFF#8], [.sp 0x0001#16], [.sp 0x0000#16, .f 0x30#8], 16⟩, -- V457
  ⟨[0xF8#8, 0x02#8], [.sp 0xFFF8#16, .f 0x80#8], [.hl 0xFFFA#16, .sp 0xFFF8#16, .f 0x00#8], 12⟩, -- V458
  ⟨[0xF8#8, 0x80#8], [.sp 0x0100#16], [.hl 0x0080#16, .f 0x00#8], 12⟩ ] -- V459

theorem test_alu16 : alu16Cases.all StepCase.holds = true := by decide +kernel

/-- Vectors V500 to V509 of spec/95_test_vectors.md. -/
def rotateACases : List StepCase := [
  ⟨[0x07#8], [.a 0x85#8, .f 0x80#8], [.a 0x0B#8, .f 0x10#8], 4⟩, -- V500
  ⟨[0x0F#8], [.a 0x01#8], [.a 0x80#8, .f 0x10#8], 4⟩, -- V501
  ⟨[0x17#8], [.a 0x80#8, .f 0x00#8], [.a 0x00#8, .f 0x10#8], 4⟩, -- V502
  ⟨[0x1F#8], [.a 0x01#8, .f 0x10#8], [.a 0x80#8, .f 0x10#8], 4⟩, -- V503
  ⟨[0xCB#8, 0x00#8], [.b 0x00#8], [.b 0x00#8, .f 0x80#8], 8⟩, -- V504
  ⟨[0xCB#8, 0x07#8], [.a 0x80#8], [.a 0x01#8, .f 0x10#8], 8⟩, -- V505
  ⟨[0xCB#8, 0x09#8], [.c 0x01#8], [.c 0x80#8, .f 0x10#8], 8⟩, -- V506
  ⟨[0xCB#8, 0x11#8], [.c 0x80#8, .f 0x00#8], [.c 0x00#8, .f 0x90#8], 8⟩, -- V507
  ⟨[0xCB#8, 0x1A#8], [.d 0x01#8, .f 0x00#8], [.d 0x00#8, .f 0x90#8], 8⟩, -- V508
  ⟨[0xCB#8, 0x23#8], [.e 0xC0#8], [.e 0x80#8, .f 0x10#8], 8⟩ ] -- V509

theorem test_rotateA : rotateACases.all StepCase.holds = true := by decide +kernel

/-- Vectors V510 to V519 of spec/95_test_vectors.md. -/
def rotateBCases : List StepCase := [
  ⟨[0xCB#8, 0x2C#8], [.h 0x81#8], [.h 0xC0#8, .f 0x10#8], 8⟩, -- V510
  ⟨[0xCB#8, 0x37#8], [.a 0xF1#8, .f 0x10#8], [.a 0x1F#8, .f 0x00#8], 8⟩, -- V511
  ⟨[0xCB#8, 0x30#8], [.b 0x00#8], [.b 0x00#8, .f 0x80#8], 8⟩, -- V512
  ⟨[0xCB#8, 0x3F#8], [.a 0x01#8], [.a 0x00#8, .f 0x90#8], 8⟩, -- V513
  ⟨[0xCB#8, 0x06#8], [.hl 0xC100#16, .mem 0xC100#16 0x81#8], [.mem 0xC100#16 0x03#8, .f 0x10#8], 16⟩, -- V514
  ⟨[0xCB#8, 0x36#8], [.hl 0xC100#16, .mem 0xC100#16 0xAB#8], [.mem 0xC100#16 0xBA#8, .f 0x00#8], 16⟩, -- V515
  ⟨[0xCB#8, 0x7F#8], [.a 0x7F#8, .f 0x10#8], [.a 0x7F#8, .f 0xB0#8], 8⟩, -- V516
  ⟨[0xCB#8, 0x47#8], [.a 0x01#8, .f 0x50#8], [.a 0x01#8, .f 0x30#8], 8⟩, -- V517
  ⟨[0xCB#8, 0x46#8], [.hl 0xC100#16, .mem 0xC100#16 0xFE#8], [.f 0xA0#8], 12⟩, -- V518
  ⟨[0xCB#8, 0x87#8], [.a 0xFF#8, .f 0xF0#8], [.a 0xFE#8, .f 0xF0#8], 8⟩ ] -- V519

theorem test_rotateB : rotateBCases.all StepCase.holds = true := by decide +kernel

/-- Vectors V520 to V522 of spec/95_test_vectors.md. -/
def bitOpsCases : List StepCase := [
  ⟨[0xCB#8, 0xFF#8], [.a 0x00#8], [.a 0x80#8, .f 0x00#8], 8⟩, -- V520
  ⟨[0xCB#8, 0xBE#8], [.hl 0xC100#16, .mem 0xC100#16 0xFF#8], [.mem 0xC100#16 0x7F#8, .f 0x00#8], 16⟩, -- V521
  ⟨[0xCB#8, 0xC6#8], [.hl 0xC100#16, .mem 0xC100#16 0x00#8], [.mem 0xC100#16 0x01#8, .f 0x00#8], 16⟩ ] -- V522

theorem test_bitOps : bitOpsCases.all StepCase.holds = true := by decide +kernel

/-- Vectors V550 to V559 of spec/95_test_vectors.md. -/
def controlACases : List StepCase := [
  ⟨[0xC3#8, 0x34#8, 0x12#8], [], [.pc 0x1234#16], 16⟩, -- V550
  ⟨[0xC2#8, 0x34#8, 0x12#8], [.f 0x80#8], [.pc 0xC003#16], 12⟩, -- V551
  ⟨[0xCA#8, 0x34#8, 0x12#8], [.f 0x80#8], [.pc 0x1234#16], 16⟩, -- V552
  ⟨[0xE9#8], [.hl 0x4000#16], [.pc 0x4000#16], 4⟩, -- V553
  ⟨[0x18#8, 0xFE#8], [], [.pc 0xC000#16], 12⟩, -- V554
  ⟨[0x18#8, 0x7F#8], [], [.pc 0xC081#16], 12⟩, -- V555
  ⟨[0x18#8, 0x80#8], [], [.pc 0xBF82#16], 12⟩, -- V556
  ⟨[0x38#8, 0x05#8], [.f 0x00#8], [.pc 0xC002#16], 8⟩, -- V557
  ⟨[0x38#8, 0x05#8], [.f 0x10#8], [.pc 0xC007#16], 12⟩, -- V558
  ⟨[0xCD#8, 0x00#8, 0xD0#8], [.sp 0xFFFE#16], [.pc 0xD000#16, .sp 0xFFFC#16, .mem 0xFFFC#16 0x03#8, .mem 0xFFFD#16 0xC0#8], 24⟩ ] -- V559

theorem test_controlA : controlACases.all StepCase.holds = true := by decide +kernel

/-- Vectors V560 to V569 of spec/95_test_vectors.md. -/
def controlBCases : List StepCase := [
  ⟨[0xD4#8, 0x00#8, 0xD0#8], [.f 0x10#8], [.pc 0xC003#16, .sp 0xFFFE#16], 12⟩, -- V560
  ⟨[0xC4#8, 0x00#8, 0xD0#8], [.f 0x00#8], [.pc 0xD000#16, .sp 0xFFFC#16, .mem 0xFFFC#16 0x03#8, .mem 0xFFFD#16 0xC0#8], 24⟩, -- V561
  ⟨[0xC9#8], [.sp 0xFFFC#16, .mem 0xFFFC#16 0x34#8, .mem 0xFFFD#16 0x12#8], [.pc 0x1234#16, .sp 0xFFFE#16], 16⟩, -- V562
  ⟨[0xC8#8], [.f 0x00#8, .sp 0xFFFC#16], [.pc 0xC001#16, .sp 0xFFFC#16], 8⟩, -- V563
  ⟨[0xC8#8], [.f 0x80#8, .sp 0xFFFC#16, .mem 0xFFFC#16 0x34#8, .mem 0xFFFD#16 0x12#8], [.pc 0x1234#16, .sp 0xFFFE#16], 20⟩, -- V564
  ⟨[0xFF#8], [.sp 0xFFFE#16], [.pc 0x0038#16, .sp 0xFFFC#16, .mem 0xFFFC#16 0x01#8, .mem 0xFFFD#16 0xC0#8], 16⟩, -- V565
  ⟨[0xD9#8], [.sp 0xFFFC#16, .mem 0xFFFC#16 0x34#8, .mem 0xFFFD#16 0x12#8, .ime false], [.pc 0x1234#16, .sp 0xFFFE#16, .ime true], 16⟩, -- V566
  ⟨[0xC5#8], [.bc 0x1234#16, .sp 0xFFFE#16], [.sp 0xFFFC#16, .mem 0xFFFC#16 0x34#8, .mem 0xFFFD#16 0x12#8], 16⟩, -- V567
  ⟨[0xD1#8], [.sp 0xFFFC#16, .mem 0xFFFC#16 0xCD#8, .mem 0xFFFD#16 0xAB#8], [.de 0xABCD#16, .sp 0xFFFE#16], 12⟩, -- V568
  ⟨[0xF1#8], [.sp 0xFFFC#16, .mem 0xFFFC#16 0xFF#8, .mem 0xFFFD#16 0x12#8], [.a 0x12#8, .f 0xF0#8, .sp 0xFFFE#16], 12⟩ ] -- V569

theorem test_controlB : controlBCases.all StepCase.holds = true := by decide +kernel

/-- Vectors V570 to V571 of spec/95_test_vectors.md. -/
def controlCCases : List StepCase := [
  ⟨[0xF5#8], [.a 0x12#8, .f 0xB0#8, .sp 0xFFFE#16], [.sp 0xFFFC#16, .mem 0xFFFC#16 0xB0#8, .mem 0xFFFD#16 0x12#8], 16⟩, -- V570
  ⟨[0xC5#8], [.bc 0x1234#16, .sp 0x0000#16], [.sp 0xFFFE#16, .mem 0xFFFE#16 0x34#8, .mem 0xFFFF#16 0x12#8], 16⟩ ] -- V571

theorem test_controlC : controlCCases.all StepCase.holds = true := by decide +kernel

/-- Vectors V600 to V609 of spec/95_test_vectors.md. -/
def loadsACases : List StepCase := [
  ⟨[0x78#8], [.b 0x5A#8], [.a 0x5A#8], 4⟩, -- V600
  ⟨[0x0E#8, 0x99#8], [], [.c 0x99#8], 8⟩, -- V601
  ⟨[0x7E#8], [.hl 0xC100#16, .mem 0xC100#16 0x77#8], [.a 0x77#8], 8⟩, -- V602
  ⟨[0x70#8], [.b 0x11#8, .hl 0xC100#16], [.mem 0xC100#16 0x11#8], 8⟩, -- V603
  ⟨[0x36#8, 0x42#8], [.hl 0xC100#16], [.mem 0xC100#16 0x42#8], 12⟩, -- V604
  ⟨[0x0A#8], [.bc 0xC100#16, .mem 0xC100#16 0x3C#8], [.a 0x3C#8], 8⟩, -- V605
  ⟨[0x12#8], [.a 0x9E#8, .de 0xC200#16], [.mem 0xC200#16 0x9E#8], 8⟩, -- V606
  ⟨[0xFA#8, 0x00#8, 0xC1#8], [.mem 0xC100#16 0x66#8], [.a 0x66#8], 16⟩, -- V607
  ⟨[0xEA#8, 0x80#8, 0xFF#8], [.a 0x5A#8], [.mem 0xFF80#16 0x5A#8], 16⟩, -- V608
  ⟨[0xF0#8, 0x44#8], [], [.a 0x00#8], 12⟩ ] -- V609

theorem test_loadsA : loadsACases.all StepCase.holds = true := by decide +kernel

/-- Vectors V610 to V619 of spec/95_test_vectors.md. -/
def loadsBCases : List StepCase := [
  ⟨[0xE0#8, 0x0F#8], [.a 0xFF#8], [.mem 0xFF0F#16 0xFF#8], 12⟩, -- V610
  ⟨[0xF2#8], [.c 0xFF#8, .ie 0x1F#8], [.a 0x1F#8], 8⟩, -- V611
  ⟨[0xE2#8], [.a 0x07#8, .c 0x07#8], [.mem 0xFF07#16 0x07#8], 8⟩, -- V612
  ⟨[0x22#8], [.a 0xAA#8, .hl 0xC1FF#16], [.hl 0xC200#16, .mem 0xC1FF#16 0xAA#8], 8⟩, -- V613
  ⟨[0x32#8], [.a 0xAA#8, .hl 0xC100#16], [.hl 0xC0FF#16, .mem 0xC100#16 0xAA#8], 8⟩, -- V614
  ⟨[0x2A#8], [.hl 0xFFFF#16, .ie 0x5A#8], [.a 0x5A#8, .hl 0x0000#16], 8⟩, -- V615
  ⟨[0x3A#8], [.hl 0xC000#16], [.a 0x3A#8, .hl 0xBFFF#16], 8⟩, -- V616
  ⟨[0x21#8, 0x34#8, 0x12#8], [], [.hl 0x1234#16], 12⟩, -- V617
  ⟨[0x31#8, 0xFE#8, 0xFF#8], [.sp 0x0000#16], [.sp 0xFFFE#16], 12⟩, -- V618
  ⟨[0x08#8, 0x00#8, 0xC1#8], [.sp 0xABCD#16], [.mem 0xC100#16 0xCD#8, .mem 0xC101#16 0xAB#8], 20⟩ ] -- V619

theorem test_loadsB : loadsBCases.all StepCase.holds = true := by decide +kernel

/-- Vectors V620 to V620 of spec/95_test_vectors.md. -/
def loadsCCases : List StepCase := [
  ⟨[0xF9#8], [.hl 0xD000#16], [.sp 0xD000#16], 8⟩ ] -- V620

theorem test_loadsC : loadsCCases.all StepCase.holds = true := by decide +kernel

/-- Vectors V650 to V656 of spec/95_test_vectors.md. -/
def systemCases : List StepCase := [
  ⟨[0x00#8], [.f 0xF0#8], [.f 0xF0#8, .pc 0xC001#16], 4⟩, -- V650
  ⟨[0x76#8], [.ie 0x00#8, .mem 0xFF0F#16 0x00#8], [.pc 0xC001#16, .run .halted], 4⟩, -- V651
  ⟨[0x10#8, 0x00#8], [], [.pc 0xC002#16, .run .stopped], 4⟩, -- V652
  ⟨[0xF3#8], [.ime true], [.ime false], 4⟩, -- V653
  ⟨[0xFB#8], [.ime false], [.ime false, .eiPending, .pc 0xC001#16], 4⟩, -- V654
  ⟨[0xD3#8], [], [.pc 0xC001#16, .fault 0xD3#8], 0⟩, -- V655
  ⟨[0xFD#8], [], [.pc 0xC001#16, .fault 0xFD#8], 0⟩ ] -- V656

theorem test_system : systemCases.all StepCase.holds = true := by decide +kernel

/-! ### Placing a table row where it is fetched -/

theorem test_tableWord : decodeTableWord 8 0xC3 = some (.jpN16 0#16) ∧ decodeTableWord 16 0xCB7E = some .bit7AtHl ∧
    decodeTableWord 8 0xCB = some .prefixCb ∧ decodeTableWord 8 0xFD = some .illegalFD := by decide
theorem test_reset_fetches_row : fetchInstr (State.reset.withFetchWord 16 0xCB37) = .swapA ∧
    fetchInstr (State.reset.withFetchWord 8 0x36) = .ldAtHlN8 0#8 := by decide +kernel
theorem test_reset_runs_row : -- LD SP,n16 with operand 0, INC A
    ((nextOf (step (State.reset.withFetchWord 8 0x3C))).map fun s => (s.cpu.a, s.cpu.pc)) = some (1#8, 1#16) := by
  decide +kernel

/-! ### Interrupts, spec/95_test_vectors.md section 8.1, one step each -/

/-- The base state with a program at 0xC000 and interrupt registers. -/
def irqState (prog : List Byte) (ime : Bool) (ie : Byte) (iflag : BitVec 5) : State :=
  { setIme ime (putBytes 0xC000#16 prog (setPc 0xC000#16 baseState)) with ie := ie, ifReg := iflag }

/-- What the interrupt vectors look at after one step: PC, SP, IME, IF and the run state. -/
def irqView (s : State) : Option (Word × Word × Bool × BitVec 5 × RunState) :=
  (nextOf (step s)).map fun t => (t.cpu.pc, t.cpu.sp, t.cpu.ime, t.ifReg, t.cpu.runState)

theorem test_V700_ei_waits : irqView (irqState [0xFB#8] false 0x01#8 0x01#5) =
    some (0xC001#16, 0xFFFE#16, false, 0x01#5, .running) := by decide +kernel
theorem test_V701_after_ei : -- the state V700 ends in, one NOP later
    irqView (setEiPending (irqState [0x00#8] false 0x01#8 0x01#5)) =
      some (0x0040#16, 0xFFFC#16, false, 0x00#5, .running) := by decide +kernel
theorem test_V703_ei_then_halt :
    ((nextOf (step (setEiPending (irqState [0x76#8] false 0x01#8 0x01#5)))).map fun t =>
      (t.cpu.pc, t.cpu.runState, read16 0xFFFC#16 t, t.timer.divAcc)) = some (0x0040#16, .running, 0xC001#16, 24) := by
  decide +kernel
theorem test_V705_halted_idles : irqView (setRunState .halted (irqState [0x00#8] false 0x04#8 0x00#5)) =
    some (0xC000#16, 0xFFFE#16, false, 0x00#5, .halted) := by decide +kernel
theorem test_V706_wakes_without_ime : irqView (setRunState .halted (irqState [0x00#8] false 0x04#8 0x04#5)) =
    some (0xC000#16, 0xFFFE#16, false, 0x04#5, .running) := by decide +kernel
theorem test_V708_priority : irqView (irqState [0x00#8] true 0x1F#8 0x1E#5) =
    some (0x0050#16, 0xFFFC#16, false, 0x1A#5, .running) := by decide +kernel
theorem test_V709_stat_never : irqView (irqState [0x00#8] true 0x1F#8 0x02#5) =
    some (0xC001#16, 0xFFFE#16, true, 0x02#5, .running) := by decide +kernel
theorem test_V710_enabled_only : irqView (irqState [0x00#8] true 0x10#8 0x11#5) =
    some (0x0060#16, 0xFFFC#16, false, 0x01#5, .running) := by decide +kernel
theorem test_V713_faulted_stays :
    ((nextOf (step (raiseFault (.unhandledOpcode 0xDB#8) baseState))).map fun t => decide
      (t = raiseFault (.unhandledOpcode 0xDB#8) baseState)) = some true := by decide +kernel
theorem test_V714_stopped_stays :
    ((nextOf (step (setRunState .stopped baseState))).map fun t => decide (t = setRunState .stopped baseState)) =
      some true := by decide +kernel

/-! ### Timer, section 8.2 -/

/-- The base state with TAC, TIMA and TMA. -/
def timerState (tac tima tma : Byte) : State :=
  { baseState with timer := { baseState.timer with tac := tac, tima := tima, tma := tma } }

theorem test_V720_V721_div : (timerTick 255 baseState).timer.div = 0#8 ∧ (timerTick 256 baseState).timer.div = 1#8 ∧
    (timerTick 256 baseState).timer.divAcc = 0 := by decide +kernel
theorem test_V722_slow : (timerTick 1023 (timerState 0x04#8 0#8 0#8)).timer.tima = 0#8 ∧
    (timerTick 1024 (timerState 0x04#8 0#8 0#8)).timer.tima = 1#8 := by decide +kernel
theorem test_V723_overflow :
    (timerTick 15 (timerState 0x05#8 0xFF#8 0x42#8)).timer.tima = 0xFF#8 ∧
    (timerTick 16 (timerState 0x05#8 0xFF#8 0x42#8)).timer.tima = 0x42#8 ∧
    (timerTick 16 (timerState 0x05#8 0xFF#8 0x42#8)).ifReg = 0x04#5 := by decide +kernel
theorem test_V724_V725_rate_change :
    let s := timerTick 202 (timerState 0x06#8 0#8 0#8)
    s.timer.tima = 3#8 ∧ s.timer.timaAcc = 10 ∧
    (timerTick 6 (write8 0xFF07#16 0x05#8 s)).timer.tima = 4#8 := by decide +kernel
theorem test_V726_disabled : (timerTick 1000 (timerState 0x03#8 0#8 0#8)).timer.timaAcc = 0 ∧
    (timerTick 1000 (timerState 0x03#8 0#8 0#8)).timer.div = 3#8 := by decide +kernel
theorem test_V727_div_write : (write8 0xFF04#16 0x12#8 (timerTick 300 baseState)).timer =
    ⟨0#8, 0#8, 0#8, 0#8, 0, 0⟩ := by decide +kernel

/-! ### PPU and renderer, sections 8.3 and 8.4 -/

theorem test_V730_scan_ends : (ppuStep 79 baseState).ppu.mode = .oamScan ∧
    (ppuStep 80 baseState).ppu.mode = .pixelTransfer := by decide +kernel
theorem test_V733_V734_vblank : -- from the end of line 143's HBLANK
    let s := { baseState with ppu := { baseState.ppu with mode := .hblank, ly := 143#8 } }
    (ppuStep 204 { s with ie := 0x01#8 }).ifReg = 0x01#5 ∧ (ppuStep 204 s).ifReg = 0x00#5 ∧
    (ppuStep 204 s).ppu.ly = 144#8 ∧ (ppuStep 204 s).ppu.mode = .vblank := by decide +kernel
theorem test_V738_stat : read8 0xFF41#16 (write8 0xFF41#16 0xFF#8 baseState) = 0xFA#8 := by decide +kernel

/-- The first ten shades of a line, with LCDC, BGP and the scroll registers, and VRAM bytes set through the map. -/
def tenShades (lcdc bgp scx scy : Byte) (vram : List (Word × Byte)) (line : Nat) : List (BitVec 2) :=
  let s := vram.foldl (fun s p => write8 p.1 p.2 s) baseState
  let p := { s.ppu with lcdc := lcdc, bgp := bgp, scx := scx, scy := scy }
  (List.range 10).map (pixelShade p s.arrays.vram line)

theorem test_V750_shades : tenShades 0x10#8 0xE4#8 0#8 0#8 [(0x9800#16, 1#8), (0x8010#16, 0xF0#8), (0x8011#16, 0xCC#8)] 0 =
    [3#2, 3#2, 1#2, 1#2, 2#2, 2#2, 0#2, 0#2, 0#2, 0#2] := by decide +kernel
theorem test_V751_scx : tenShades 0x10#8 0xE4#8 2#8 0#8 [(0x9800#16, 1#8), (0x8010#16, 0xF0#8), (0x8011#16, 0xCC#8)] 0 =
    [1#2, 1#2, 2#2, 2#2, 0#2, 0#2, 0#2, 0#2, 0#2, 0#2] := by decide +kernel
theorem test_V752_palette : tenShades 0x10#8 0x1B#8 0#8 0#8 [(0x9800#16, 1#8), (0x8010#16, 0xF0#8), (0x8011#16, 0xCC#8)] 0 =
    [0#2, 0#2, 2#2, 2#2, 1#2, 1#2, 3#2, 3#2, 3#2, 3#2] := by decide +kernel
theorem test_V753_signed : tenShades 0x00#8 0xE4#8 0#8 0#8 [(0x9800#16, 0xFF#8), (0x8FF0#16, 0xFF#8)] 0 =
    [1#2, 1#2, 1#2, 1#2, 1#2, 1#2, 1#2, 1#2, 0#2, 0#2] := by decide +kernel
theorem test_V755_scy : tenShades 0x18#8 0xE4#8 0#8 8#8 [(0x9C20#16, 2#8), (0x8020#16, 0xFF#8), (0x8021#16, 0xFF#8)] 0 =
    [3#2, 3#2, 3#2, 3#2, 3#2, 3#2, 3#2, 3#2, 0#2, 0#2] := by decide +kernel
theorem test_V756_wrap : tenShades 0x10#8 0xE4#8 0xFC#8 0#8 [(0x9800#16, 1#8), (0x8010#16, 0xFF#8), (0x8011#16, 0xFF#8)] 0 =
    [0#2, 0#2, 0#2, 0#2, 3#2, 3#2, 3#2, 3#2, 3#2, 3#2] := by decide +kernel

/-! ### Joypad, section 8.5 -/

theorem test_V761_V764_press :
    let s := press .down (write8 0xFF00#16 0x20#8 baseState)
    read8 0xFF00#16 s = 0xE7#8 ∧ s.ifReg = 0x10#5 ∧ (press .down { s with ifReg := 0#5 }).ifReg = 0#5 ∧
    read8 0xFF00#16 (release .down s) = 0xEF#8 := by decide +kernel
theorem test_V763_not_selected :
    let s := press .start (write8 0xFF00#16 0x30#8 baseState)
    read8 0xFF00#16 s = 0xFF#8 ∧ s.ifReg = 0#5 ∧ read8 0xFF00#16 (write8 0xFF00#16 0x10#8 s) = 0xD7#8 := by
  decide +kernel
theorem test_V765_both_groups : read8 0xFF00#16 (press .left baseState) = 0xCD#8 := by decide +kernel

/-! ### Cartridge, section 8.6 -/

/-- An MBC1 cartridge of `len` bytes with some image bytes. -/
def cartState (kind : MbcKind) (len : Nat) (image : Memory 8) : State :=
  postBoot (State.powerOn [] image len kind Params.default)

/-- Byte 0 of some banks is the bank's number. -/
def bankImage : Memory 8 :=
  [(0x4000, 0x01#8), (0xC000, 0x03#8), (0x44000, 0x11#8), (0x48000, 0x12#8), (0x7C000, 0x1F#8), (0x84000, 0x21#8),
   (0xFC000, 0x3F#8)]

/-- What 0x4000 reads after control writes to a 1 MiB cartridge. -/
def bankAfter (kind : MbcKind) (ws : List (Word × Byte)) : Byte :=
  read8 0x4000#16 (ws.foldl (fun s p => write8 p.1 p.2 s) (cartState kind 0x100000 bankImage))

theorem test_V770_V773_mbc1 :
    bankAfter .mbc1 [(0x4000#16, 0x01#8), (0x2000#16, 0x00#8)] = 0x21#8 ∧
    bankAfter .mbc1 [(0x4000#16, 0x01#8), (0x2000#16, 0x20#8)] = 0x21#8 ∧
    bankAfter .mbc1 [(0x2000#16, 0x20#8)] = 0x01#8 ∧
    bankAfter .mbc1 [(0x4000#16, 0x01#8), (0x2000#16, 0x00#8), (0x6000#16, 0x01#8)] = 0x01#8 := by decide +kernel
theorem test_V774_V775_mbc1 :
    bankAfter .mbc1 [(0x2000#16, 0x1F#8)] = 0x1F#8 ∧ bankAfter .mbc1 [(0x2000#16, 0xE3#8)] = 0x03#8 ∧
    bankAfter .mbc1 [(0x4000#16, 0x03#8), (0x2000#16, 0x1F#8)] = 0x3F#8 := by decide +kernel
theorem test_V776_V777_multicart :
    bankAfter .mbc1Multicart [(0x4000#16, 0x01#8), (0x2000#16, 0x12#8)] = 0x12#8 ∧
    bankAfter .mbc1Multicart [(0x4000#16, 0x01#8), (0x2000#16, 0x00#8)] = 0x11#8 := by decide +kernel

/-- An MBC1 cartridge with RAM, and control writes. -/
def ramCart (ws : List (Word × Byte)) : State :=
  ws.foldl (fun s p => write8 p.1 p.2 s) (cartState .mbc1 0x8000 [(0x147, 0x03#8), (0x149, 0x03#8)])

theorem test_V778_V779_ram :
    read8 0xA000#16 (ramCart [(0xA000#16, 0x55#8)]) = 0xFF#8 ∧
    read8 0xA000#16 (ramCart [(0x0000#16, 0x0A#8), (0xA000#16, 0x55#8)]) = 0x55#8 := by decide +kernel
theorem test_V780_ram_bank :
    let ws := [(0x0000#16, 0x0A#8), (0xA000#16, 0x55#8), (0x6000#16, 0x01#8), (0x4000#16, 0x02#8)]
    read8 0xA000#16 (ramCart ws) = 0x00#8 ∧ read8 0xA000#16 (ramCart (ws ++ [(0x4000#16, 0x00#8)])) = 0x55#8 := by
  decide +kernel
theorem test_V781_ram_enable :
    let ws := [(0x0000#16, 0x0A#8), (0xA000#16, 0x55#8), (0x0000#16, 0x1B#8)]
    read8 0xA000#16 (ramCart ws) = 0xFF#8 ∧ read8 0xA000#16 (ramCart (ws ++ [(0x0000#16, 0x3A#8)])) = 0x55#8 := by
  decide +kernel

/-! ### Memory map, reset and header, sections 8.7, 8.8 and E12 -/

theorem test_V791_unused : read8 0xFEA0#16 (write8 0xFEA0#16 0x12#8 baseState) = 0#8 ∧
    read8 0xFEFF#16 (write8 0xFEFF#16 0x12#8 baseState) = 0#8 := by decide +kernel
theorem test_V792_V793_echo : read8 0xFDFF#16 (write8 0xDDFF#16 0x12#8 baseState) = 0x12#8 ∧
    read8 0xC000#16 (write8 0xE000#16 0x34#8 baseState) = 0x34#8 ∧
    read8 0xFE00#16 (write8 0xDE00#16 0x09#8 baseState) = 0x00#8 := by decide +kernel
theorem test_V796_unmapped : read8 0xFF4D#16 baseState = 0xFF#8 ∧ read8 0xFF50#16 baseState = 0xFF#8 ∧
    read8 0xFF46#16 baseState = 0xFF#8 := by decide +kernel
theorem test_V797_word_wraps : (write16 0xFFFF#16 0x1234#16 baseState).ie = 0x34#8 := by decide +kernel
theorem test_V810_V811_boot : -- boot ROM byte 5 is 5
    let s := State.powerOn [(5, 5#8)] [(0x100, 0x77#8)] 0x8000 .noMbc Params.default
    read8 0x0005#16 s = 5#8 ∧ read8 0x0100#16 s = 0x77#8 ∧ read8 0x0005#16 (write8 0xFF50#16 0#8 s) = 0#8 := by
  decide +kernel
theorem test_E12_header_checksum : headerChecksum [] = 0xE7#8 := by decide +kernel

/-! ### Witnesses: each statement's hypotheses are met by something concrete -/

/-- Two bytes at PC in the boot ROM of a machine just powered on. -/
def bootState (prog : List Byte) : State := State.powerOn (Memory.ofList prog) [] 0x8000 .noMbc Params.default

/-- A machine in the middle of VBlank with every kind of RAM written and a request pending. -/
def busyState : State :=
  { ramCart [(0x0000#16, 0x0A#8), (0xA000#16, 0x55#8), (0x8000#16, 0x01#8), (0x9FFF#16, 0x02#8), (0xC000#16, 0x3C#8),
      (0xFE9F#16, 0x03#8), (0xFFFE#16, 0x04#8), (0xFF41#16, 0xFF#8), (0xFF00#16, 0xFF#8), (0xFFFF#16, 0x05#8)] with
    ppu := { baseState.ppu with mode := .vblank, ly := 153#8, acc := 455 }
    timer := ⟨0xFF#8, 0xFF#8, 0x10#8, 0x04#8, 255, 1023⟩
    ifReg := 0x04#5 }

theorem witness_DecodeOfEncode : Instr.WellFormed (.ldAtN16Sp 0xFFFF#16) ∧ Instr.WellFormed .set7A := by decide
theorem witness_EncodeOfDecode : decodeBytes [0x08#8, 0xFF#8, 0x01#8, 0x00#8] = .instr (.ldAtN16Sp 0x01FF#16) [0#8] ∧
    decodeBytes [0xCB#8, 0xFF#8] = .instr .set7A [] ∧ decodeBytes [0xCB#8] = .instr .prefixCb [] := by decide
theorem witness_FirstByteFixesLength : (0xD3#8 : Byte) ∈ undefinedOpcodes ∧ (0xFD#8 : Byte) ∈ undefinedOpcodes := by
  decide
theorem witness_UndefinedOpcodesAreEleven : Instr.undefinedOpcode? .illegalD3 = some 0xD3#8 ∧
    Instr.undefinedOpcode? .illegalFD = some 0xFD#8 := by decide
theorem witness_StepRunsTheDecodedInstruction :
    let s := bootState [0x3E#8, 0x5A#8]
    let s0 := applyPendingEi s
    s.cpu.fault = none ∧ s.cpu.runState = .running ∧ Instr.WellFormed (.ldAN8 0x5A#8) ∧
    decodeBytes [read8 s0.cpu.pc s0, read8 (s0.cpu.pc + 1#16) s0, read8 (s0.cpu.pc + 2#16) s0] =
      .instr (.ldAN8 0x5A#8) [0#8] ∧
    (nextOf (exec (.ldAN8 0x5A#8) (setPc 2#16 s0))).isSome = true := by decide +kernel
theorem witness_HaltedAndEndedSteps :
    (setRunState .stopped baseState).Ended ∧ (raiseFault (.unhandledOpcode 0xD3#8) baseState).Ended ∧
    (setRunState .halted baseState).cpu.fault = none ∧ (setRunState .halted baseState).cpu.runState = .halted :=
  ⟨.inr rfl, .inl (by decide), by decide, by decide⟩
theorem witness_PrefixRunsTheCbTable : read8 (bootState [0xFF#8]).cpu.pc (bootState [0xFF#8]) = 0xFF#8 := by
  decide +kernel
theorem witness_UndefinedOpcodeStep :
    let s := setEiPending (bootState [0xD3#8])
    s.cpu.fault = none ∧ s.cpu.runState = .running ∧ read8 s.cpu.pc s = 0xD3#8 ∧
    (0xD3#8 : Byte) ∈ undefinedOpcodes := by
  decide +kernel
theorem busy_hiddenRowsBlank : busyState.HiddenRowsBlank := fun _ _ _ _ _ => rfl
theorem busy_inv : busyState.Inv :=
  ⟨by unfold State.MemoryCanonical; decide +kernel, by unfold State.TimerBounded; decide +kernel,
   by unfold State.PpuConsistent; decide +kernel, by unfold State.ReservedClear; decide +kernel, busy_hiddenRowsBlank⟩
theorem witness_StepKeepsTheInvariant : busyState.Inv ∧ (nextOf (step busyState)).isSome = true :=
  ⟨busy_inv, by decide +kernel⟩
theorem witness_HostEventsKeepTheInvariant : busyState.Inv := busy_inv
theorem witness_StoreThenLoad :
    (isPlainStore 0x8000#16 && isPlainStore 0x9FFF#16 && isPlainStore 0xC000#16 && isPlainStore 0xFDFF#16 &&
      isPlainStore 0xFE9F#16 && isPlainStore 0xFF80#16 && isPlainStore 0xFFFE#16 && isPlainStore 0xFFFF#16) = true ∧
    sameByte 0xC000#16 0xE000#16 ∧ sameByte 0xFDFF#16 0xDDFF#16 ∧ sameByte 0xFFFF#16 0xFFFF#16 := by
  refine ⟨by decide +kernel, .inr ?_, .inr ?_, .inl rfl⟩ <;> decide
theorem witness_StoreFrame : ¬ affectedBy 0xDDFF#16 0xDE00#16 ∧ ¬ affectedBy 0x7FFF#16 0x3FFF#16 ∧
    ¬ affectedBy 0xFF50#16 0x0100#16 ∧ ¬ affectedBy 0xFFFE#16 0xFFFF#16 := by
  unfold affectedBy sameByte; decide
theorem witness_EchoRam : (0 < 0x1E00 ∧ 0x1DFF < 0x1E00) ∧
    (0x1E00 ≤ 0x1E00 ∧ 0x1E00 < 0x2000 ∧ 0xFE00#16 ≠ BitVec.ofNat 16 (0xC000 + 0x1E00)) ∧
    (0x1E00 ≤ 0x1FFF ∧ 0x1FFF < 0x2000 ∧ 0xFFFF#16 ≠ BitVec.ofNat 16 (0xC000 + 0x1FFF)) := by decide
theorem witness_WordAccess : isPlainStore 0xFFFE#16 = true ∧ isPlainStore (0xFFFE#16 + 1#16) = true ∧
    isPlainStore 0xDFFF#16 = true ∧ isPlainStore (0xDFFF#16 + 1#16) = true := by decide +kernel
theorem witness_Mbc1ControlWrites : (ramCart []).mbc.kind ≠ .noMbc ∧ baseState.mbc.kind = .noMbc ∧
    [0x0000#16, 0x1FFF#16, 0x2000#16, 0x3FFF#16, 0x4000#16, 0x5FFF#16, 0x6000#16, 0x7FFF#16].all
      (fun a => decide (a.toNat < 0x8000)) = true := by decide +kernel
theorem witness_RomWindows : (0x3FFF < 0x4000) ∧ baseState.mbc.kind = .noMbc ∧ (ramCart []).mbc.kind ≠ .noMbc ∧
    0x4000 ≤ 0x4000 ∧ 0x4000 ≤ 0x7FFF ∧ (ramCart []).mbc.kind = .mbc1 := by decide +kernel
theorem witness_ExternalRam : (0xA000 ≤ (0xA000#16).toNat ∧ (0xBFFF#16).toNat < 0xC000) ∧
    (let s := ramCart [(0x0000#16, 0x0A#8)]
     s.mbc.kind ≠ .noMbc ∧ Memory.read s.arrays.rom 0x149 ≠ 0#8 ∧ s.mbc.ramEnable = true) ∧
    baseState.mbc.kind = .noMbc ∧ (ramCart []).mbc.ramEnable = false := by decide +kernel
theorem witness_InstructionMemoryFrame :
    (nextOf (exec .pushBc baseState)).isSome = true ∧ storeAddrs .pushBc baseState = [0xFFFC#16, 0xFFFD#16] ∧
    ¬ affectedBy 0xFFFC#16 0xFFFE#16 ∧ ¬ affectedBy 0xFFFD#16 0xFFFE#16 ∧ storeAddrs .nop baseState = [] := by
  refine ⟨rfl, rfl, ?_, ?_, rfl⟩ <;> (unfold affectedBy sameByte; decide)
theorem witness_InstructionControlFrame : (nextOf (exec .reti baseState)).isSome = true ∧
    Instr.undefinedOpcode? .reti = none := by decide +kernel
theorem witness_StepKeepsImagesAndFaultsOnlyOnUndefined :
    (bootState [0xE4#8]).cpu.fault = none ∧
    ((nextOf (step (bootState [0xE4#8]))).map fun t => t.cpu.fault) = some (some (.unhandledOpcode 0xE4#8)) := by
  decide +kernel
theorem witness_conditions : -- JumpRows, CallRows and ReturnRows: each condition is met and is not
    (condHolds .nz ⟨false, false, false, false⟩ = true ∧ condHolds .nz ⟨true, false, false, false⟩ = false) ∧
    (condHolds .z ⟨true, false, false, false⟩ = true ∧ condHolds .z ⟨false, false, false, false⟩ = false) ∧
    (condHolds .nc ⟨false, false, false, false⟩ = true ∧ condHolds .nc ⟨false, false, false, true⟩ = false) ∧
    (condHolds .c ⟨false, false, false, true⟩ = true ∧ condHolds .c ⟨false, false, false, false⟩ = false) := by decide
theorem witness_JumpRows : (setFlags ⟨true, false, false, true⟩ baseState).cpu.f.z = true ∧
    baseState.cpu.f.z = false ∧ (setFlags ⟨true, false, false, true⟩ baseState).cpu.f.c = true ∧
    baseState.cpu.f.c = false := by decide
theorem witness_CallRows : (setFlags ⟨true, false, false, true⟩ baseState).cpu.f.z = true ∧
    baseState.cpu.f.z = false ∧ (setFlags ⟨true, false, false, true⟩ baseState).cpu.f.c = true ∧
    baseState.cpu.f.c = false := witness_JumpRows
theorem witness_ReturnRows : (setFlags ⟨true, false, false, true⟩ baseState).cpu.f.z = true ∧
    baseState.cpu.f.z = false ∧ (setFlags ⟨true, false, false, true⟩ baseState).cpu.f.c = true ∧
    baseState.cpu.f.c = false := witness_JumpRows
theorem witness_StackRoundTrip :
    isPlainStore (baseState.cpu.sp - 2#16) = true ∧ isPlainStore (baseState.cpu.sp - 1#16) = true ∧
    (((nextOf (exec .pushBc baseState)).bind fun t => nextOf (exec .popBc t)).isSome = true) ∧
    (((nextOf (exec (.callN16 0xC000#16) baseState)).bind fun t => nextOf (exec .ret t)).isSome = true) := by
  decide +kernel
theorem witness_EiActsOneStepLater :
    (let s := irqState [0xFB#8] false 0x01#8 0x01#5
     s.cpu.fault = none ∧ s.cpu.runState = .running ∧ s.cpu.ime = false ∧ s.cpu.eiPending = false ∧
     read8 s.cpu.pc s = 0xFB#8 ∧ (nextOf (step s)).isSome = true) ∧
    (setEiPending baseState).cpu.eiPending = true ∧ (setEiPending baseState).cpu.fault = none ∧
    (setEiPending baseState).cpu.runState = .running := by decide +kernel
theorem witness_InterruptCheck :
    (baseState.ifReg.toNat &&& baseState.ie.toNat = 0) ∧
    (let s := irqState [] false 0x1F#8 0x10#5
     s.ifReg.toNat &&& s.ie.toNat ≠ 0 ∧ s.cpu.ime = false) ∧
    [0x01#5, 0x02#5, 0x04#5, 0x08#5, 0x10#5].all (fun r =>
      decide ((irqState [] true 0x1F#8 r).ifReg.toNat &&& (irqState [] true 0x1F#8 r).ie.toNat ≠ 0) &&
      decide ((irqState [] true 0x1F#8 r).cpu.ime = true)) = true := by decide +kernel
theorem witness_RetiUndoesTheDispatch :
    isPlainStore (baseState.cpu.sp - 2#16) = true ∧ isPlainStore (baseState.cpu.sp - 1#16) = true := by decide +kernel
theorem witness_TimerTickRule :
    (timerState 0x03#8 0#8 0#8).timer.tac.getLsbD 2 = false ∧ (timerState 0x05#8 0xFF#8 0x42#8).timer.tac.getLsbD 2 = true ∧
    (timerState 0x05#8 0xFF#8 0x42#8).timer.timaAcc + 15 < 16 ∧ (timerState 0x05#8 0xFF#8 0x42#8).timer.timaAcc + 16 = 16 ∧
    (timerState 0x05#8 0xFF#8 0x42#8).timer.tima = 0xFF#8 ∧ (timerState 0x05#8 0xFE#8 0x42#8).timer.tima ≠ 0xFF#8 := by
  decide +kernel
theorem witness_PpuTransitions :
    baseState.ppu.acc + 79 < 80 ∧ baseState.ppu.acc + 80 = 80 ∧
    (let s := setMode .pixelTransfer baseState
     s.ppu.acc + 172 = 172) ∧
    (let s := setLy 142#8 (setMode .hblank baseState)
     s.ppu.acc + 204 = 204 ∧ (s.ppu.ly + 1#8).toNat < 144) ∧
    (let s := setLy 143#8 (setMode .hblank baseState)
     s.ppu.acc + 204 = 204 ∧ ¬ (s.ppu.ly + 1#8).toNat < 144) ∧
    (let s := setLy 152#8 (setMode .vblank baseState)
     s.ppu.acc + 456 = 456 ∧ ¬ (s.ppu.ly + 1#8).toNat > 153) ∧
    (let s := setLy 153#8 (setMode .vblank baseState)
     s.ppu.acc + 456 = 456 ∧ (s.ppu.ly + 1#8).toNat > 153) := by decide +kernel
theorem witness_FramePeriod : baseState.ppu.mode = .oamScan ∧ baseState.ppu.acc = 0 ∧ baseState.ppu.ly = 0#8 := by decide
theorem witness_RenderedRow : 0 < 256 ∧ 143 < 256 ∧ 255 < 256 := by decide
theorem witness_LaunchPremises_refused :
    (match launch ⟨none, .notSupplied, Params.default⟩ with | .refused .loadFailure => true | _ => false) = true ∧
    (match launch ⟨some [], .failed, { Params.default with launch := .postBoot }⟩ with
      | .refused .loadFailure => true | _ => false) = true ∧
    (match launch ⟨some [], .notSupplied, Params.default⟩ with | .refused .romLength => true | _ => false) = true := by
  decide +kernel
theorem launch_header (b : Byte) : (List.replicate 0x8000 b).getD 0x147 0#8 = b := by
  rw [List.getD_eq_getElem?_getD, List.getElem?_replicate, if_pos (by omega), Option.getD_some]
theorem witness_LaunchPremises_header :
    (List.replicate 0x8000 (0x05#8 : Byte)).length % 0x4000 = 0 ∧
    ((List.replicate 0x8000 (0x05#8 : Byte)).getD 0x147 0#8).toNat > 3 ∧
    ((List.replicate 0x8000 (0x03#8 : Byte)).getD 0x147 0#8).toNat ≤ 3 := by
  rw [List.length_replicate, launch_header, launch_header]
  exact ⟨by decide, by decide, by decide⟩
theorem witness_LaunchPremises_bootRom :
    (BootImage.bytes .notSupplied).length ≠ 256 ∧ BootImage.notSupplied ≠ .failed ∧
    (BootImage.bytes (.loaded (List.replicate 256 0#8))).length = 256 :=
  ⟨by decide, by decide, List.length_replicate⟩

end Sys2Proof.Tests
end

section
/-! PROOFS. The machine's invariant: what stores, the timer and the PPU do to its parts, and that it holds at reset
(O13) and is kept by every step (O14). -/

namespace Sys2Proof.Machine

/-! ### Stores -/

/-- A control write changes the MBC only. -/
theorem mbcWriteControl_eq (a : Nat) (v : Byte) (s : State) : ∃ m, mbcWriteControl a v s = { s with mbc := m } := by
  unfold mbcWriteControl
  split
  · exact ⟨s.mbc, rfl⟩
  all_goals (repeat' split) <;> exact ⟨_, rfl⟩

/-- A write to the RAM window changes the external RAM only. -/
theorem mbcWriteRam_eq (o : Nat) (v : Byte) (s : State) :
    ∃ e, mbcWriteRam o v s = { s with arrays := { s.arrays with extram := e } } := by
  unfold mbcWriteRam
  split
  · exact ⟨_, rfl⟩
  · exact ⟨s.arrays.extram, rfl⟩

/-- The one store that moves the timer's accumulators is to DIV, which clears them. -/
theorem writePlace_timerBounded (p : Place) (v : Byte) (s : State) (h : s.TimerBounded) :
    (writePlace p v s).TimerBounded := by
  cases p
  case rom a => obtain ⟨m, e⟩ := mbcWriteControl_eq a v s; rw [writePlace, e]; exact h
  case extRam o => obtain ⟨x, e⟩ := mbcWriteRam_eq o v s; rw [writePlace, e]; exact h
  case div => exact ⟨Nat.zero_lt_succ 255, Nat.zero_lt_succ 1023⟩
  all_goals exact h

/-- The stores to P1 and STAT mask the reserved bits away. -/
theorem writePlace_reservedClear (p : Place) (v : Byte) (s : State) (h : s.ReservedClear) :
    (writePlace p v s).ReservedClear := by
  obtain ⟨hstat, hp1⟩ := h
  cases p
  case rom a => obtain ⟨m, e⟩ := mbcWriteControl_eq a v s; rw [writePlace, e]; exact ⟨hstat, hp1⟩
  case extRam o => obtain ⟨x, e⟩ := mbcWriteRam_eq o v s; rw [writePlace, e]; exact ⟨hstat, hp1⟩
  case p1 => exact ⟨hstat, by simp [writePlace, BitVec.and_assoc]⟩
  case stat => exact ⟨by simp [writePlace, BitVec.and_assoc], hp1⟩
  all_goals exact ⟨hstat, hp1⟩

/-- Rows are hidden or not by what is read of the framebuffer. -/
theorem HiddenRowsBlank_congr {s t : State} (hf : t.ppu.fb = s.ppu.fb) (h : s.HiddenRowsBlank) : t.HiddenRowsBlank :=
  fun y x hy hy' hx => by rw [framePixel, hf]; exact h y x hy hy' hx

/-- A store keeps the invariant. -/
theorem write8_inv (a : Word) (v : Byte) (s : State) (h : s.Inv) : (write8 a v s).Inv := by
  obtain ⟨hmem, htimer, hppu, hres, hrows⟩ := h
  refine ⟨write8_canonical a v s hmem, writePlace_timerBounded _ v s htimer, ?_, writePlace_reservedClear _ v s hres,
    HiddenRowsBlank_congr (write8_ppu_fb a v s) hrows⟩
  rw [State.PpuConsistent, write8_ppu_ly, write8_ppu_mode, write8_ppu_acc]
  exact hppu

/-! ### The PPU's transitions -/

/-- LY is 0 to 153, and VBLANK is exactly lines 144 and up: what holds between two rounds of the PPU's loop too, where
the accumulator may still be above the budget. -/
def State.LineConsistent (s : State) : Prop :=
  s.ppu.ly.toNat ≤ 153 ∧ (s.ppu.mode = .vblank ↔ 144 ≤ s.ppu.ly.toNat)

theorem ppuConsistent_iff (s : State) : s.PpuConsistent ↔ s.LineConsistent ∧ s.ppu.acc < s.ppu.mode.budget :=
  and_assoc.symm

/-- The end of OAM scan (60_exceptions.md R731). -/
theorem ppuTransition_oamScan {s : State} (h : s.ppu.mode = .oamScan) :
    ppuTransition s = setMode .pixelTransfer s := by
  rw [ppuTransition, h]

/-- The end of pixel transfer draws the line (60_exceptions.md R732). -/
theorem ppuTransition_pixelTransfer {s : State} (h : s.ppu.mode = .pixelTransfer) :
    ppuTransition s = setMode .hblank (renderScanline s.ppu.ly.toNat s) := by
  rw [ppuTransition, h]

/-- The end of HBLANK begins the next line, in VBLANK from line 144 on; beside that it may only raise a request
(60_exceptions.md R733). -/
theorem ppuTransition_hblank {s : State} (h : s.ppu.mode = .hblank) :
    ∃ f, ppuTransition s = { setMode (if (s.ppu.ly + 1#8).toNat < 144 then .oamScan else .vblank)
      (setLy (s.ppu.ly + 1#8) s) with ifReg := f } := by
  rw [ppuTransition, h]
  dsimp only
  rw [setLy_ppu_ly]
  split
  · exact ⟨s.ifReg, rfl⟩
  · split
    · exact ⟨_, rfl⟩
    · exact ⟨s.ifReg, rfl⟩

/-- The end of a VBLANK line begins the next one, and after line 153 line 0 (60_exceptions.md R734). -/
theorem ppuTransition_vblank {s : State} (h : s.ppu.mode = .vblank) :
    ppuTransition s = if (s.ppu.ly + 1#8).toNat > 153 then setMode .oamScan (setLy 0#8 s)
      else setLy (s.ppu.ly + 1#8) s := by
  rw [ppuTransition, h]
  rfl

/-- Only the end of pixel transfer draws. -/
theorem ppuTransition_ppu_fb (s : State) :
    (ppuTransition s).ppu.fb = if s.ppu.mode = .pixelTransfer
      then renderColumns s.ppu s.arrays.vram s.ppu.ly.toNat 256 0 s.ppu.fb else s.ppu.fb := by
  cases hm : s.ppu.mode
  case oamScan => rw [ppuTransition_oamScan hm]; rfl
  case pixelTransfer => rw [ppuTransition_pixelTransfer hm, setMode_ppu_fb, renderScanline_ppu_fb, if_pos rfl]
  case hblank => obtain ⟨f, e⟩ := ppuTransition_hblank hm; rw [e]; rfl
  case vblank => rw [ppuTransition_vblank hm]; split <;> rfl

/-- LY is below 255 wherever it is consistent, so the next line's number is one higher. -/
theorem ly_succ_toNat {v : Byte} (h : v.toNat ≤ 153) : (v + 1#8).toNat = v.toNat + 1 := by
  rw [BitVec.toNat_add]
  exact Nat.mod_eq_of_lt (Nat.lt_of_le_of_lt (Nat.add_le_add_right h 1) (by decide))

/-- A transition keeps LY in range and VBLANK at the lines from 144 on. -/
theorem ppuTransition_lineConsistent (s : State) (h : s.LineConsistent) : (ppuTransition s).LineConsistent := by
  obtain ⟨hly, hv⟩ := h
  have hsucc := ly_succ_toNat hly
  cases hm : s.ppu.mode
  case oamScan =>
    rw [ppuTransition_oamScan hm]
    exact ⟨hly, by simpa [hm] using hv⟩
  case pixelTransfer =>
    rw [ppuTransition_pixelTransfer hm]
    exact ⟨by simpa using hly, by simpa [hm] using hv⟩
  case hblank =>
    obtain ⟨f, e⟩ := ppuTransition_hblank hm
    have hlow : s.ppu.ly.toNat < 144 := by simpa [hm] using hv
    rw [e]
    refine ⟨by simp only [setMode_ppu_ly, setLy_ppu_ly]; omega, ?_⟩
    simp
  case vblank =>
    have hhigh : 144 ≤ s.ppu.ly.toNat := hv.mp hm
    rw [ppuTransition_vblank hm]
    split
    · exact ⟨by simp, by simp⟩
    · refine ⟨by rw [setLy_ppu_ly]; omega, ?_⟩
      rw [setLy_ppu_mode, setLy_ppu_ly, hm]
      exact iff_of_true rfl (by omega)

/-- What the picture needs: lines and modes agree, the memory is canonical, and no hidden row is drawn. -/
def State.PictureConsistent (s : State) : Prop := s.MemoryCanonical ∧ s.LineConsistent ∧ s.HiddenRowsBlank

/-- Only visible lines are drawn: a line in pixel transfer is below 144. -/
theorem ppuTransition_pictureConsistent (s : State) (h : s.PictureConsistent) :
    (ppuTransition s).PictureConsistent := by
  obtain ⟨hmem, hline, hrows⟩ := h
  have hfb := ppuTransition_ppu_fb s
  by_cases hm : s.ppu.mode = .pixelTransfer
  · have hlow : s.ppu.ly.toNat < 144 := by simpa [hm] using hline.2
    rw [if_pos hm] at hfb
    refine ⟨?_, ppuTransition_lineConsistent s hline, fun y x hy hy' hx => ?_⟩
    · have hdrawn := renderScanline_canonical s.ppu.ly.toNat s (by omega) hmem
      exact MemoryCanonical_congr (by simp) (hfb.trans (renderScanline_ppu_fb _ s).symm) hdrawn
    · rw [framePixel, hfb, read_renderColumns, if_neg (by omega)]
      exact hrows y x hy hy' hx
  · rw [if_neg hm] at hfb
    exact ⟨MemoryCanonical_congr (by simp) hfb hmem, ppuTransition_lineConsistent s hline,
      HiddenRowsBlank_congr hfb hrows⟩

/-! ### Ticking -/

/-- The timer's tick keeps the invariant. -/
theorem timerTick_inv (c : Nat) (s : State) (h : s.Inv) : (timerTick c s).Inv := by
  obtain ⟨hmem, htimer, hppu, hres, hrows⟩ := h
  have hp := timerTick_ppu c s
  refine ⟨MemoryCanonical_congr (by simp) (by rw [hp]) hmem, timerTick_bounded c s htimer, ?_, ?_,
    HiddenRowsBlank_congr (by rw [hp]) hrows⟩
  · rw [State.PpuConsistent, hp]; exact hppu
  · rw [State.ReservedClear, hp, timerTick_joypad]; exact hres

/-- The PPU's step keeps the invariant: the loop keeps the picture consistent and ends below the mode's budget. -/
theorem ppuStep_inv (c : Nat) (s : State) (h : s.Inv) : (ppuStep c s).Inv := by
  obtain ⟨hmem, htimer, hppu, hres, hrows⟩ := h
  obtain ⟨hline, -⟩ := (ppuConsistent_iff s).mp hppu
  obtain ⟨hmem', hline', hrows'⟩ := ppuStep_induction (P := State.PictureConsistent) (fun _ _ h => h)
    ppuTransition_pictureConsistent c s ⟨hmem, hline, hrows⟩
  refine ⟨hmem', ?_, (ppuConsistent_iff _).mpr ⟨hline', ppuStep_acc_lt c s⟩, ?_, hrows'⟩
  · rw [State.TimerBounded, ppuStep_timer]; exact htimer
  · rw [State.ReservedClear, ppuStep_ppu_statSel, ppuStep_joypad]; exact hres

/-- A tick of both devices keeps the invariant. -/
theorem tickDevices_inv (c : Nat) (s : State) (h : s.Inv) : (tickDevices c s).Inv :=
  ppuStep_inv c _ (timerTick_inv c s h)

/-! ### The step -/

/-- The invariant does not look at the processor, so every update a meaning makes keeps it. -/
theorem kept_inv : Kept State.Inv := Kept.ofMemory (fun _ _ h => h) write8_inv

theorem applyPendingEi_inv (s : State) (h : s.Inv) : (applyPendingEi s).Inv := by
  unfold applyPendingEi
  split <;> exact h

/-- Settles O14: what an instruction does, a pending EI, the ticks and the interrupt dispatch each keep the invariant. -/
theorem stepKeepsTheInvariant : Obligations.StepKeepsTheInvariant := fun s t h hs =>
  kept_inv.step tickDevices_inv applyPendingEi_inv (fun _ _ h => h) s t h hs

/-- Settles O13: at reset the arrays are empty, and LY and every accumulator 0. -/
theorem resetMeetsTheInvariant : Obligations.ResetMeetsTheInvariant :=
  ⟨reset_canonical, by unfold State.TimerBounded; decide, by unfold State.PpuConsistent; decide,
    by unfold State.ReservedClear; decide, fun _ _ _ _ _ => rfl⟩

end Sys2Proof.Machine
end

section
/-! PROOFS. Who may change the control state and the fixed parts of the machine: an instruction (O28) and a step (O29). -/

namespace Sys2Proof.Machine

/-! ### The control state -/

/-- The control state: IME, the EI latch, the run state and the fault (10_state.md R107 to R110). -/
def Cpu.control (c : Cpu) : Bool × Bool × RunState × Option Fault := (c.ime, c.eiPending, c.runState, c.fault)

theorem Cpu.control_eq_iff (c d : Cpu) : c.control = d.control ↔
    c.ime = d.ime ∧ c.eiPending = d.eiPending ∧ c.runState = d.runState ∧ c.fault = d.fault := by
  simp [Cpu.control]

@[simp] theorem setReg_control (r : Reg8) (v : Byte) (s : State) :
    (setReg r v s).cpu.control = s.cpu.control := by cases r <;> rfl
@[simp] theorem setFlags_control (f : Flags) (s : State) : (setFlags f s).cpu.control = s.cpu.control := rfl
@[simp] theorem setPc_control (v : Word) (s : State) : (setPc v s).cpu.control = s.cpu.control := rfl
@[simp] theorem setSp_control (v : Word) (s : State) : (setSp v s).cpu.control = s.cpu.control := rfl
@[simp] theorem popSp_control (s : State) : (popSp s).cpu.control = s.cpu.control := rfl
@[simp] theorem setPair_control (p : Pair) (v : Word) (s : State) :
    (setPair p v s).cpu.control = s.cpu.control := by cases p <;> rfl
@[simp] theorem setStackPair_control (p : StackPair) (v : Word) (s : State) :
    (setStackPair p v s).cpu.control = s.cpu.control := by cases p <;> rfl

@[simp] theorem writeOperand_control (o : Operand8) (v : Byte) (s : State) :
    (writeOperand o v s).cpu.control = s.cpu.control := by
  cases o with
  | reg r => exact setReg_control r v s
  | atHl => rw [writeOperand_atHl, write8_cpu]

@[simp] theorem aluValue_control (op : AluOp) (v : Byte) (s : State) :
    (aluValue op v s).cpu.control = s.cpu.control := by
  cases op <;> simp [aluValue]

@[simp] theorem push16_control (v : Word) (s : State) : (push16 v s).cpu.control = s.cpu.control := by
  rw [push16_cpu]
  rfl

@[simp] theorem callTo_control (t : Word) (s : State) : (callTo t s).cpu.control = s.cpu.control :=
  push16_control _ s

/-- A conditional form keeps the control state where the taken one does. -/
theorem whenCond_control (cc : Cond) {e : State → State} (s : State) (h : (e s).cpu.control = s.cpu.control) :
    (whenCond cc e s).cpu.control = s.cpu.control := by
  unfold whenCond
  split
  · exact h
  · rfl

@[simp] theorem cbEffect_control (op2 : Byte) (s : State) : (cbEffect op2 s).cpu.control = s.cpu.control := by
  unfold cbEffect
  split
  · simp [rotOperand]
  · exact setFlags_control _ s
  · exact writeOperand_control _ _ s
  · exact writeOperand_control _ _ s

/-- The forms whose work is to change the control state. -/
def Form.changesControl : Form → Bool
  | .reti | .halt | .stop _ | .di | .ei | .undefined _ => true
  | _ => false

/-- Every other form leaves the control state as it was. -/
theorem Form.run_control (f : Form) (s : State) (h : f.changesControl = false) :
    (f.run s).cpu.control = s.cpu.control := by
  cases f <;> simp only [Form.run]
  case reti | halt | stop | di | ei | undefined => cases h
  case alu | aluImm => exact aluValue_control _ _ s
  case inc | dec => simp [incOperand, decOperand]
  case daa | cpl | scf | ccf => simp [daaA, complementA, setCarry, complementCarry]
  case addHl | incPair | decPair => simp [addHlPair, Machine.incPair, Machine.decPair]
  case addSp | ldHlSp => simp [addSpDisp, ldHlSpDisp]
  case rotA | rot => simp [Machine.rotA, rotOperand]
  case bit | res | set => simp [bitOperand, resOperand, setOperand]
  case jp | jpHl | jr => exact setPc_control _ s
  case jpCond | jrCond => exact whenCond_control _ s (setPc_control _ s)
  case call | rst => exact callTo_control _ s
  case callCond => exact whenCond_control _ s (callTo_control _ s)
  case ret => exact setPc_control _ _
  case retCond => exact whenCond_control _ s (setPc_control _ _)
  case push => exact push16_control _ s
  case pop => simp [popPair]
  case ldReg | ldHlReg | ldImm => exact writeOperand_control _ _ s
  case ldA | stA => simp [loadA, storeA]
  case ldAHl | stAHl => simp [loadAThenMove, storeAThenMove, loadA, storeA]
  case ldPair | ldSpHl => simp
  case stSp => rw [write16_cpu]
  case prefixCb => exact cbEffect_control _ _

/-- Who changes what of the control state: IME DI and RETI, the EI latch EI, the run state HALT and STOP, the fault an
undefined opcode. -/
theorem Form.run_controlFrame (f : Form) (s : State) :
    (f.instr ≠ .di → f.instr ≠ .reti → (f.run s).cpu.ime = s.cpu.ime) ∧
    (f.instr ≠ .ei → (f.run s).cpu.eiPending = s.cpu.eiPending) ∧
    (f.instr ≠ .halt → (∀ n, f.instr ≠ .stop n) → (f.run s).cpu.runState = s.cpu.runState) ∧
    (f.instr.undefinedOpcode? = none → (f.run s).cpu.fault = s.cpu.fault) := by
  by_cases hc : f.changesControl = false
  · obtain ⟨hime, hei, hrun, hfault⟩ := (Cpu.control_eq_iff _ _).mp (f.run_control s hc)
    exact ⟨fun _ _ => hime, fun _ => hei, fun _ _ => hrun, fun _ => hfault⟩
  · cases f
    case reti => exact ⟨fun _ h => absurd rfl h, fun _ => rfl, fun _ _ => rfl, fun _ => rfl⟩
    case di => exact ⟨fun h => absurd rfl h, fun _ => rfl, fun _ _ => rfl, fun _ => rfl⟩
    case ei => exact ⟨fun _ _ => rfl, fun h => absurd rfl h, fun _ _ => rfl, fun _ => rfl⟩
    case halt => exact ⟨fun _ _ => rfl, fun _ => rfl, fun h => absurd rfl h, fun _ => rfl⟩
    case stop n => exact ⟨fun _ _ => rfl, fun _ => rfl, fun _ h => absurd rfl (h n), fun _ => rfl⟩
    case undefined u => exact ⟨fun _ _ => rfl, fun _ => rfl, fun _ _ => rfl, fun h => by cases u <;> cases h⟩
    all_goals exact absurd rfl hc

/-! ### The images and the display -/

/-- `t` has the parameters, the MBC variant and the images of `s`, and maps the boot ROM only where `s` does. -/
def KeepsImages (s t : State) : Prop :=
  t.params = s.params ∧ t.mbc.kind = s.mbc.kind ∧ t.arrays.rom = s.arrays.rom ∧
  t.arrays.romLen = s.arrays.romLen ∧ t.arrays.bootrom = s.arrays.bootrom ∧ (t.bootEnabled = true → s.bootEnabled = true)

theorem KeepsImages.refl (s : State) : KeepsImages s s := ⟨rfl, rfl, rfl, rfl, rfl, id⟩

/-- Nothing an instruction is built from changes the images. -/
theorem kept_keepsImages (s : State) : Kept (KeepsImages s) :=
  Kept.ofMemory (fun _ _ h => h) fun a v t h => by
    obtain ⟨hparams, hkind, hrom, hlen, hboot, hlatch⟩ := h
    exact ⟨(write8_params a v t).trans hparams, (write8_mbc_kind a v t).trans hkind, (write8_arrays_rom a v t).trans hrom,
      (write8_arrays_romLen a v t).trans hlen, (write8_arrays_bootrom a v t).trans hboot,
      fun hb => hlatch (write8_bootEnabled a v t hb)⟩

/-- `t` has the framebuffer, the PPU's mode, accumulator and line, and the buttons of `s`. -/
def KeepsDisplay (s t : State) : Prop :=
  t.ppu.fb = s.ppu.fb ∧ t.ppu.mode = s.ppu.mode ∧ t.ppu.acc = s.ppu.acc ∧ t.ppu.ly = s.ppu.ly ∧
  t.joypad.dirNibble = s.joypad.dirNibble ∧ t.joypad.actNibble = s.joypad.actNibble

theorem KeepsDisplay.refl (s : State) : KeepsDisplay s s := ⟨rfl, rfl, rfl, rfl, rfl, rfl⟩

/-- Nothing an instruction is built from changes the display or the buttons. -/
theorem kept_keepsDisplay (s : State) : Kept (KeepsDisplay s) :=
  Kept.ofMemory (fun _ _ h => h) fun a v t h => by
    obtain ⟨hfb, hmode, hacc, hly, hdir, hact⟩ := h
    exact ⟨(write8_ppu_fb a v t).trans hfb, (write8_ppu_mode a v t).trans hmode, (write8_ppu_acc a v t).trans hacc,
      (write8_ppu_ly a v t).trans hly, (write8_joypad_dirNibble a v t).trans hdir,
      (write8_joypad_actNibble a v t).trans hact⟩

/-- Settles O28: the control state by form, the rest because stores keep it. -/
theorem instructionControlFrame : Obligations.InstructionControlFrame := by
  intro i s t hx
  obtain ⟨hparams, hkind, hrom, hlen, hboot, hlatch⟩ := (kept_keepsImages s).exec i s t (KeepsImages.refl s) hx
  obtain ⟨hfb, hmode, hacc, hly, hdir, hact⟩ := (kept_keepsDisplay s).exec i s t (KeepsDisplay.refl s) hx
  obtain ⟨f, rfl⟩ := Form.cover i
  rw [exec_form, Host.Outcome.next.injEq] at hx
  subst hx
  obtain ⟨hime, hei, hrun, hfault⟩ := f.run_controlFrame s
  exact ⟨hime, hei, hrun, hfault, hparams, hkind, hrom, hlen, hboot, hfb, hmode, hacc, hly, hdir, hact, hlatch⟩

/-! ### The step -/

/-- A step keeps the images. -/
theorem step_keepsImages {s t : State} (h : step s = .next t) : KeepsImages s t :=
  (kept_keepsImages s).step (fun c u hu => by simpa [KeepsImages] using hu)
    (fun u hu => by simpa [KeepsImages] using hu) (fun _ _ hu => hu) s t (KeepsImages.refl s) h

/-- What follows an instruction raises no fault. -/
@[simp] theorem afterCpu_fault (s : State) (c : Nat) : (afterCpu s c).cpu.fault = s.cpu.fault :=
  afterCpu_induction (P := fun t => t.cpu.fault = s.cpu.fault) (fun _ _ h => by simpa using h)
    (fun _ h => h) (fun _ _ h => by simpa using h) c s rfl

/-- An instruction that names an undefined opcode is that opcode's row. -/
theorem exists_undefinedOp {i : Instr} {op : Byte} (h : i.undefinedOpcode? = some op) :
    ∃ u : UndefinedOp, u.instr = i ∧ u.byte = op := by
  unfold Instr.undefinedOpcode? at h
  split at h <;> cases h
  exacts [⟨.opD3, rfl, rfl⟩, ⟨.opDB, rfl, rfl⟩, ⟨.opDD, rfl, rfl⟩, ⟨.opE3, rfl, rfl⟩, ⟨.opE4, rfl, rfl⟩,
    ⟨.opEB, rfl, rfl⟩, ⟨.opEC, rfl, rfl⟩, ⟨.opED, rfl, rfl⟩, ⟨.opF4, rfl, rfl⟩, ⟨.opFC, rfl, rfl⟩, ⟨.opFD, rfl, rfl⟩]

/-- Running an undefined opcode records it. -/
theorem exec_undefinedOpcode {i : Instr} {op : Byte} (h : i.undefinedOpcode? = some op) (s : State) :
    exec i s = .next (raiseFault (.unhandledOpcode op) s) := by
  obtain ⟨u, rfl, rfl⟩ := exists_undefinedOp h
  exact exec_form (.undefined u) s

/-- No row of the CB table is undefined (30_encoding.md R310). -/
theorem decodeCb_undefinedOpcode? (op2 : Byte) : (decodeCb op2).undefinedOpcode? = none := by
  revert op2
  decide +kernel

/-- The first byte alone tells an undefined opcode (30_encoding.md R311): each row of the base table is read off, with
its operand bytes left open. -/
theorem decode3_undefinedOpcode? (op b1 b2 : Byte) :
    (decode3 op b1 b2).undefinedOpcode? = if op ∈ undefinedOpcodes then some op else none := by
  obtain ⟨n, hn, rfl⟩ : ∃ n < 256, op = BitVec.ofNat 8 n := ⟨op.toNat, op.isLt, by simp⟩
  rcases Nat.lt_trichotomy n 0xCB with hlow | rfl | hhigh
  · interval_cases n <;> rfl
  · exact decodeCb_undefinedOpcode? b1
  · interval_cases n <;> rfl

/-- An instruction raises a fault only as the undefined opcode it is, and records its byte. -/
theorem exec_raises_fault {i : Instr} {s t : State} (hx : exec i s = .next t) (hs : s.cpu.fault = none)
    (ht : t.cpu.fault ≠ none) : ∃ op, i.undefinedOpcode? = some op ∧ t.cpu.fault = some (.unhandledOpcode op) := by
  cases hu : i.undefinedOpcode? with
  | none =>
    obtain ⟨-, -, -, hfault, -⟩ := instructionControlFrame i s t hx
    exact absurd ((hfault hu).trans hs) ht
  | some op =>
    rw [exec_undefinedOpcode hu, Host.Outcome.next.injEq] at hx
    subst hx
    exact ⟨op, rfl, rfl⟩

/-- A step raises a fault only where the byte at PC is an undefined opcode. -/
theorem step_raises_fault {s t : State} (h : step s = .next t) (hs : s.cpu.fault = none) (ht : t.cpu.fault ≠ none) :
    read8 s.cpu.pc s ∈ undefinedOpcodes ∧ t.cpu.fault = some (.unhandledOpcode (read8 s.cpu.pc s)) := by
  rcases step_cases h with ⟨-, rfl⟩ | ⟨-, -, rfl⟩ | ⟨-, -, u, hu, rfl⟩
  · exact absurd hs ht
  · exact absurd (by simpa using hs) ht
  · rw [afterCpu_fault] at ht ⊢
    obtain ⟨op, hop, hfault⟩ := exec_raises_fault hu (by simpa using hs) ht
    rw [fetchInstr, decode3_undefinedOpcode?, read8_applyPendingEi, applyPendingEi_cpu_pc] at hop
    split at hop
    · rename_i hmem
      cases hop
      exact ⟨hmem, hfault⟩
    · cases hop

/-- Settles O29: every part of a step keeps the images, and only an undefined opcode's row records a fault. -/
theorem stepKeepsImagesAndFaultsOnlyOnUndefined : Obligations.StepKeepsImagesAndFaultsOnlyOnUndefined := by
  intro s t h
  obtain ⟨hparams, hkind, hrom, hlen, hboot, hlatch⟩ := step_keepsImages h
  exact ⟨hparams, hkind, hrom, hlen, hboot, hlatch, step_raises_fault h⟩

end Sys2Proof.Machine
end

section
/-! PROOFS. The flag byte (O10), the registers and pairs (O11), and the reset values (O12). -/

namespace Sys2Proof.Machine

/-! ### The flag byte -/

/-- Each flag is its bit of the packed byte (10_state.md R103). -/
theorem packFlags_toNat (f : Flags) : (packFlags f).toNat =
    (if f.z then 128 else 0) + (if f.n then 64 else 0) + (if f.h then 32 else 0) + (if f.c then 16 else 0) := by
  obtain ⟨z, n, h, c⟩ := f
  revert z n h c
  decide

@[simp] theorem unpackFlags_packFlags (f : Flags) : unpackFlags (packFlags f) = f := by
  obtain ⟨z, n, h, c⟩ := f
  revert z n h c
  decide

/-- The law of 10_state.md R103: packing what a byte holds loses its low nibble. -/
@[simp] theorem packFlags_unpackFlags (b : Byte) : packFlags (unpackFlags b) = b &&& 0xF0#8 := by
  revert b
  decide

/-- Settles O10: the packing formula, the round trip and the law of R103. -/
theorem flagBytePacking : Obligations.FlagBytePacking :=
  ⟨packFlags_toNat, unpackFlags_packFlags, packFlags_unpackFlags⟩

/-! ### Registers and pairs -/

theorem mkWord_and (h l h' l' : Byte) : mkWord h l &&& mkWord h' l' = mkWord (h &&& h') (l &&& l') :=
  BitVec.and_append

/-- A pair reads what was written to it. -/
@[simp] theorem getPair_setPair_same (p : Pair) (v : Word) (s : State) : getPair p (setPair p v s) = v := by
  cases p with
  | sp => rfl
  | bc | de | hl => exact mkWord_hiByte_loByte v

/-- AF reads what was written to it but for the low nibble of F, which no flag stores (10_state.md R102). -/
theorem getStackPair_setStackPair_af (v : Word) (s : State) :
    getStackPair .af (setStackPair .af v s) = v &&& 0xFFF0#16 :=
  calc getStackPair .af (setStackPair .af v s)
      = mkWord (hiByte v) (packFlags (unpackFlags (loByte v))) := rfl
    _ = mkWord (hiByte v &&& 0xFF#8) (loByte v &&& 0xF0#8) := by
      rw [packFlags_unpackFlags, show (0xFF#8) = BitVec.allOnes 8 from rfl, BitVec.and_allOnes]
    _ = mkWord (hiByte v) (loByte v) &&& mkWord 0xFF#8 0xF0#8 := (mkWord_and _ _ _ _).symm
    _ = v &&& 0xFFF0#16 := by rw [mkWord_hiByte_loByte]; rfl

/-- Settles O11: the reads and the writes are the fields by definition, the numbers are those of the two halves. -/
theorem registersAndPairs : Obligations.RegistersAndPairs := by
  refine ⟨fun s => ⟨rfl, rfl, rfl, rfl, rfl, rfl, rfl⟩, fun s v => ⟨rfl, rfl, rfl, rfl, rfl, rfl, rfl⟩,
    fun s r q v => getReg_setReg q r v s, fun _ _ => rfl, fun _ _ => rfl,
    fun v => ⟨hiByte_toNat v, loByte_toNat v⟩, fun s => ?_, fun s v => ?_,
    fun s p v => getPair_setPair_same p v s, fun s v => getStackPair_setStackPair_af v s⟩
  · exact ⟨mkWord_toNat _ _, mkWord_toNat _ _, mkWord_toNat _ _, rfl, mkWord_toNat _ _, rfl, rfl, rfl⟩
  · exact ⟨rfl, rfl, rfl, rfl, rfl, rfl, rfl, rfl⟩

/-! ### Reset -/

/-- The state a machine is launched in, with either mode, has not ended (70_reset_and_hazards.md R800, R802). -/
theorem launchState_not_ended (boot rom : Memory 8) (n : Nat) (k : MbcKind) (p : Params) :
    ¬ (launchState boot rom n k p).Ended := by
  unfold launchState State.Ended
  split <;> exact fun h => h.elim (fun hf => hf rfl) nofun

/-- Settles O12: the table is the power-on state's own fields, and what the three registers with fixed bits read as. -/
theorem resetAndPostBootValues : Obligations.ResetAndPostBootValues := by
  refine ⟨fun boot rom n k p => ?_, rfl, fun s => ⟨rfl, launchState_not_ended _ _ _ _ _⟩⟩
  have hregs (r : Reg8) : getReg r (State.powerOn boot rom n k p) = 0#8 := by cases r <;> rfl
  have hflags : packFlags (State.powerOn boot rom n k p).cpu.f = 0#8 := show packFlags Flags.clear = 0#8 by decide
  have hif : read8 0xFF0F#16 (State.powerOn boot rom n k p) = 0xE0#8 :=
    show (0#5).setWidth 8 ||| 0xE0#8 = 0xE0#8 by decide
  have hstat : read8 0xFF41#16 (State.powerOn boot rom n k p) = 0x82#8 :=
    show 0x80#8 ||| 0#8 ||| PpuMode.oamScan.code = 0x82#8 by decide
  have hp1 : read8 0xFF00#16 (State.powerOn boot rom n k p) = 0xCF#8 :=
    show p1Read ⟨0#8, 0xF#4, 0xF#4⟩ = 0xCF#8 by decide
  exact ⟨hregs, hflags, rfl, rfl, rfl, rfl, rfl, rfl, fun _ => ⟨rfl, rfl, rfl, rfl, rfl⟩, rfl, hif, rfl, rfl, rfl, hstat,
    rfl, rfl, rfl, hp1, rfl, rfl, rfl, rfl, rfl, rfl, rfl, fun _ _ => rfl, rfl, rfl, rfl, rfl, rfl, rfl, rfl⟩

end Sys2Proof.Machine
end

section
/-! PROOFS. The address map: which place each address leads to, and its columns of reads (O17) and writes (O18). -/

namespace Sys2Proof.Machine

/-! ### Where an address leads -/

/-- The map in one direction: an address that a place names leads there. The converse is `route_is`. What is left of the
I/O page is `route_unmapped`. -/
theorem route_of_is {a : Word} {p : Place} (h : p.Is a) (hp : p ≠ .unmapped) : route a = p := by
  cases p <;> simp only [Place.Is] at h
  case unmapped => exact absurd rfl hp
  case rom k => obtain ⟨hk, h1⟩ := h; rw [hk, route, if_pos h1]
  case vram k => obtain ⟨hk, h1, h2⟩ := h; rw [hk, route, if_neg (by omega), if_pos h2]
  case extRam k => obtain ⟨hk, h1, h2⟩ := h; rw [hk, route, if_neg (by omega), if_neg (by omega), if_pos h2]
  case wram k =>
    obtain ⟨hk, h1, h2⟩ := h
    rw [hk, route, if_neg (by omega), if_neg (by omega), if_neg (by omega), if_pos h2]
  case oam k =>
    obtain ⟨hk, h1, h2⟩ := h
    rw [hk, route, if_neg (by omega), if_neg (by omega), if_neg (by omega), if_neg (by omega), if_pos h2]
  case unused =>
    obtain ⟨h1, h2⟩ := h
    rw [route, if_neg (by omega), if_neg (by omega), if_neg (by omega), if_neg (by omega), if_neg (by omega), if_pos h2]
  case hram k =>
    obtain ⟨hk, h1, h2⟩ := h
    rw [hk, route, if_neg (by omega), if_neg (by omega), if_neg (by omega), if_neg (by omega), if_neg (by omega),
      if_neg (by omega), if_neg (by omega), if_pos h2]
  all_goals simp [route, ioPlace, h]

/-- The registers of the I/O page (20_memory.md R203). -/
def ioRegisters : List Nat :=
  [0xFF00, 0xFF04, 0xFF05, 0xFF06, 0xFF07, 0xFF0F, 0xFF40, 0xFF41, 0xFF42, 0xFF43, 0xFF44, 0xFF47, 0xFF50]

/-- The rest of the I/O page. -/
theorem route_unmapped {a : Word} (h1 : 0xFF00 ≤ a.toNat) (h2 : a.toNat < 0xFF80) (h : a.toNat ∉ ioRegisters) :
    route a = .unmapped := by
  simp only [ioRegisters, List.mem_cons, List.not_mem_nil, or_false, not_or] at h
  rw [route, if_neg (by omega), if_neg (by omega), if_neg (by omega), if_neg (by omega), if_neg (by omega),
    if_neg (by omega), if_pos h2]
  simp [ioPlace, h]

theorem read8_of_is {a : Word} {p : Place} (h : p.Is a) (hp : p ≠ .unmapped) (s : State) :
    read8 a s = readPlace p s := by rw [read8, route_of_is h hp]

theorem write8_of_is {a : Word} {p : Place} (h : p.Is a) (hp : p ≠ .unmapped) (v : Byte) (s : State) :
    write8 a v s = writePlace p v s := by rw [write8, route_of_is h hp]

/-- Addresses of one byte lead to one place. -/
theorem route_eq_of_sameByte {a b : Word} (h : sameByte a b) : route a = route b := by
  rcases h with rfl | ⟨ha, ha', hb, hb', hmod⟩
  · rfl
  · rw [route_of_is (p := .wram (a.toNat % 0x2000)) ⟨rfl, ha, ha'⟩ nofun,
      route_of_is (p := .wram (a.toNat % 0x2000)) ⟨hmod, hb, hb'⟩ nofun]

/-- Addresses that lead to one place name one byte, but where the place stores nothing. -/
theorem sameByte_of_route_eq {a b : Word} (h : route a = route b) (hu : route b ≠ .unused)
    (hm : route b ≠ .unmapped) : sameByte a b := by
  have hb := route_is b
  have ha := h ▸ route_is a
  cases hp : route b <;> simp only [hp, Place.Is] at ha hb
  case unused => exact absurd hp hu
  case unmapped => exact absurd hp hm
  case wram k => exact .inr (by omega)
  all_goals exact .inl (BitVec.eq_of_toNat_eq (by omega))

/-! ### The address map -/

theorem ifReg_read_eq (v : BitVec 5) : v.setWidth 8 ||| 0xE0#8 = BitVec.ofNat 8 (v.toNat + 0xE0) := by
  revert v
  decide

theorem and_0x1FFF_toNat (a : Word) : (a &&& 0x1FFF#16).toNat = a.toNat % 0x2000 := by
  rw [BitVec.toNat_and]
  exact Nat.and_two_pow_sub_one_eq_mod a.toNat 13

/-- One test of a column of the map. -/
theorem eq_ite {α : Type} {c : Prop} [Decidable c] {x y z : α} (hy : c → x = y) (hz : ¬ c → x = z) :
    x = if c then y else z := ite_elim (P := (x = ·)) hy hz

/-- Settles O17: the tests of the read column in order, each naming the place its addresses lead to. -/
theorem addressMapReads : Obligations.AddressMapReads := by
  intro s a
  refine
    eq_ite (fun h => (read8_of_is (p := .rom _) ⟨rfl, by omega⟩ nofun s).trans (if_pos h)) fun hboot =>
    eq_ite (fun h => (read8_of_is (p := .rom _) ⟨rfl, h⟩ nofun s).trans (if_neg hboot)) fun _ =>
    eq_ite (fun h => read8_of_is (p := .vram _) ⟨rfl, by omega, h⟩ nofun s) fun _ =>
    eq_ite (fun h => read8_of_is (p := .extRam _) ⟨rfl, by omega, h⟩ nofun s) fun _ =>
    eq_ite (fun h => read8_of_is (p := .wram _) ⟨and_0x1FFF_toNat a, by omega, h⟩ nofun s) fun _ =>
    eq_ite (fun h => read8_of_is (p := .oam _) ⟨rfl, by omega, h⟩ nofun s) fun _ =>
    eq_ite (fun h => read8_of_is (p := .unused) ⟨by omega, h⟩ nofun s) fun _ =>
    eq_ite (fun h => read8_of_is (p := .p1) h nofun s) fun _ =>
    eq_ite (fun h => read8_of_is (p := .div) h nofun s) fun _ =>
    eq_ite (fun h => read8_of_is (p := .tima) h nofun s) fun _ =>
    eq_ite (fun h => read8_of_is (p := .tma) h nofun s) fun _ =>
    eq_ite (fun h => read8_of_is (p := .tac) h nofun s) fun _ =>
    eq_ite (fun h => (read8_of_is (p := .ifReg) h nofun s).trans (ifReg_read_eq s.ifReg)) fun _ =>
    eq_ite (fun h => read8_of_is (p := .lcdc) h nofun s) fun _ =>
    eq_ite (fun h => (read8_of_is (p := .stat) h nofun s).trans ?stat) fun _ =>
    eq_ite (fun h => read8_of_is (p := .scy) h nofun s) fun _ =>
    eq_ite (fun h => read8_of_is (p := .scx) h nofun s) fun _ =>
    eq_ite (fun h => read8_of_is (p := .ly) h nofun s) fun _ =>
    eq_ite (fun h => read8_of_is (p := .bgp) h nofun s) fun _ =>
    eq_ite (fun h => ?unmapped) fun _ =>
    eq_ite (fun h => read8_of_is (p := .hram _) ⟨rfl, by omega, h⟩ nofun s) fun _ =>
      read8_of_is (p := .ie) (show a.toNat = 0xFFFF by omega) nofun s
  case stat =>
    rw [readPlace]
    cases s.ppu.mode <;> rfl
  case unmapped =>
    by_cases hlatch : a.toNat = 0xFF50
    · exact read8_of_is (p := .boot) hlatch nofun s
    · rw [read8, route_unmapped (by omega) h (by simp [ioRegisters, *]), readPlace]

/-- Settles O18: the tests of the write column in order, as for the reads; what no test names stores nothing. -/
theorem addressMapWrites : Obligations.AddressMapWrites := by
  intro s a v
  refine
    eq_ite (fun h => write8_of_is (p := .rom _) ⟨rfl, h⟩ nofun v s) fun _ =>
    eq_ite (fun h => write8_of_is (p := .vram _) ⟨rfl, by omega, h⟩ nofun v s) fun _ =>
    eq_ite (fun h => write8_of_is (p := .extRam _) ⟨rfl, by omega, h⟩ nofun v s) fun _ =>
    eq_ite (fun h => write8_of_is (p := .wram _) ⟨and_0x1FFF_toNat a, by omega, h⟩ nofun v s) fun _ =>
    eq_ite (fun h => write8_of_is (p := .oam _) ⟨rfl, by omega, h⟩ nofun v s) fun _ =>
    eq_ite (fun h => write8_of_is (p := .p1) h nofun v s) fun _ =>
    eq_ite (fun h => write8_of_is (p := .div) h nofun v s) fun _ =>
    eq_ite (fun h => write8_of_is (p := .tima) h nofun v s) fun _ =>
    eq_ite (fun h => write8_of_is (p := .tma) h nofun v s) fun _ =>
    eq_ite (fun h => write8_of_is (p := .tac) h nofun v s) fun _ =>
    eq_ite (fun h => write8_of_is (p := .ifReg) h nofun v s) fun _ =>
    eq_ite (fun h => write8_of_is (p := .lcdc) h nofun v s) fun _ =>
    eq_ite (fun h => write8_of_is (p := .stat) h nofun v s) fun _ =>
    eq_ite (fun h => write8_of_is (p := .scy) h nofun v s) fun _ =>
    eq_ite (fun h => write8_of_is (p := .scx) h nofun v s) fun _ =>
    eq_ite (fun h => write8_of_is (p := .bgp) h nofun v s) fun _ =>
    eq_ite (fun h => write8_of_is (p := .boot) h nofun v s) fun _ =>
    eq_ite (fun h => ?nothing) fun _ =>
    eq_ite (fun h => write8_of_is (p := .hram _) ⟨rfl, by omega, h⟩ nofun v s) fun _ =>
      write8_of_is (p := .ie) (show a.toNat = 0xFFFF by omega) nofun v s
  case nothing =>
    by_cases hunused : a.toNat < 0xFF00
    · exact write8_of_is (p := .unused) (show 0xFEA0 ≤ a.toNat ∧ a.toNat < 0xFF00 by omega) nofun v s
    by_cases hly : a.toNat = 0xFF44
    · exact write8_of_is (p := .ly) hly nofun v s
    · rw [write8, route_unmapped (by omega) h (by simp [ioRegisters, *]), writePlace]

end Sys2Proof.Machine
end

section
/-! PROOFS. The cartridge: MBC1's control writes (O23), the ROM windows (O24) and external RAM (O25). -/

namespace Sys2Proof.Machine

/-! ### Control writes -/

/-- Without an MBC control writes are ignored (20_memory.md R242). -/
theorem mbcWriteControl_noMbc {s : State} (h : s.mbc.kind = .noMbc) (a : Nat) (v : Byte) :
    mbcWriteControl a v s = s := by
  rw [mbcWriteControl, h]

/-- The low nibble of a byte. -/
theorem and_0x0F_eq_0x0A_iff (v : Byte) : v &&& 0x0F#8 = 0x0A#8 ↔ v.toNat % 16 = 0xA := by
  revert v
  decide

/-- MBC1's four registers (20_memory.md R245 to R249). -/
theorem mbcWriteControl_mbc1 {s : State} (h : s.mbc.kind ≠ .noMbc) (a : Nat) (v : Byte) :
    mbcWriteControl a v s = { s with mbc :=
      if a < 0x2000 then { s.mbc with ramEnable := decide (v.toNat % 16 = 0xA) }
      else if a < 0x4000 then { s.mbc with bankLo := BitVec.ofNat 5 v.toNat }
      else if a < 0x6000 then { s.mbc with bankHi := BitVec.ofNat 2 v.toNat }
      else { s.mbc with mode := BitVec.ofNat 1 v.toNat } } := by
  simp only [← and_0x0F_eq_0x0A_iff]
  unfold mbcWriteControl
  split
  · exact absurd ‹_› h
  all_goals (repeat' split) <;> rfl

/-- Settles O23: a control write is the MBC's own, by variant. -/
theorem mbc1ControlWrites : Obligations.Mbc1ControlWrites := by
  intro s a v ha
  rw [write8_of_is (p := .rom _) ⟨rfl, ha⟩ nofun, writePlace]
  exact eq_ite (fun h => mbcWriteControl_noMbc h _ v) fun h => mbcWriteControl_mbc1 h _ v

/-! ### The ROM windows -/

/-- The primary register, with 0 bumped to 1 (20_memory.md R243). -/
theorem bumpedLo_eq (m : Mbc) : bumpedLo m = if m.bankLo.toNat = 0 then 1 else m.bankLo.toNat := by
  simp [bumpedLo, BitVec.toNat_eq]

theorem bumpedLo_pos (m : Mbc) : 0 < bumpedLo m := by
  rw [bumpedLo_eq]
  split <;> omega

theorem bumpedLo_lt (m : Mbc) : bumpedLo m < 32 := by
  have := m.bankLo.isLt
  rw [bumpedLo_eq]
  split <;> omega

/-- The effective bank in numbers: the registers joined side by side are a sum (20_memory.md R243, R253). -/
theorem romBank_eq {m : Mbc} (h : m.kind ≠ .noMbc) :
    romBank m =
      if m.mode.toNat = 1 then bumpedLo m
      else if m.kind = .mbc1 then m.bankHi.toNat * 32 + bumpedLo m
      else m.bankHi.toNat * 16 + bumpedLo m % 16 := by
  have hmode : m.mode = 0#1 ↔ ¬ m.mode.toNat = 1 := by
    have := m.mode.isLt
    rw [BitVec.toNat_eq, BitVec.toNat_ofNat]
    omega
  have hlow : bumpedLo m % 16 < 2 ^ 4 := Nat.mod_lt _ (by decide)
  cases hk : m.kind with
  | noMbc => exact absurd hk h
  | mbc1 =>
    simp only [romBank, hk, hmode, ite_not, if_true]
    rw [← Nat.shiftLeft_add_eq_or_of_lt (bumpedLo_lt m), Nat.shiftLeft_eq]
  | mbc1Multicart =>
    simp only [romBank, hk, hmode, ite_not, reduceCtorEq, if_false]
    rw [show 0x0F = 2 ^ 4 - 1 from rfl, Nat.and_two_pow_sub_one_eq_mod, ← Nat.shiftLeft_add_eq_or_of_lt hlow,
      Nat.shiftLeft_eq]

/-- The lower window is bank 0, whatever the variant and the mode (20_memory.md R242, R244). -/
theorem mbcReadRom_low {a : Nat} (h : a < 0x4000) (s : State) : mbcReadRom a s = Memory.read s.arrays.rom a := by
  unfold mbcReadRom romIndex
  split
  · rfl
  · rw [if_pos h]
  · rw [if_pos h]

theorem mbcReadRom_noMbc {s : State} (h : s.mbc.kind = .noMbc) (a : Nat) :
    mbcReadRom a s = Memory.read s.arrays.rom a := by
  rw [mbcReadRom, romIndex, h]

theorem mbcReadRom_high {a : Nat} (ha : 0x4000 ≤ a) {s : State} (h : s.mbc.kind ≠ .noMbc) :
    mbcReadRom a s =
      Memory.read s.arrays.rom (romBank s.mbc % (s.arrays.romLen / 0x4000) * 0x4000 + (a - 0x4000)) := by
  unfold mbcReadRom romIndex
  split
  · exact absurd ‹_› h
  · rw [if_neg (by omega)]; rfl
  · rw [if_neg (by omega)]; rfl

/-- Settles O24: the windows by variant, and the effective bank in numbers. -/
theorem romWindows : Obligations.RomWindows := by
  refine ⟨fun s n h => mbcReadRom_low h s, fun s n h => mbcReadRom_noMbc h n, fun s n hn h => ?_, fun m h => ?_⟩
  · rw [mbcReadRom_high hn h, romBank_eq h, bumpedLo_eq]
  · have := bumpedLo_pos m
    have := bumpedLo_lt m
    rw [romBank_eq (by rw [h]; nofun), if_pos h]
    split <;> omega

/-! ### External RAM -/

/-- The RAM window reaches a byte: RAM is there and enabled (20_memory.md R250). -/
def State.RamEnabled (s : State) : Prop :=
  s.mbc.kind ≠ .noMbc ∧ Memory.read s.arrays.rom 0x149 ≠ 0#8 ∧ s.mbc.ramEnable = true

theorem extramIndex_enabled {s : State} (h : s.RamEnabled) (o : Nat) :
    extramIndex o s = some (ramBank s.mbc * 0x2000 + o) := by
  obtain ⟨hkind, hpresent, henable⟩ := h
  unfold extramIndex
  split
  · exact absurd ‹_› hkind
  all_goals simp [ramPresent, hpresent, henable]

theorem extramIndex_disabled {s : State} (h : ¬ s.RamEnabled) (o : Nat) : extramIndex o s = none := by
  unfold extramIndex
  split
  · rfl
  all_goals
    rename_i hk
    simpa [State.RamEnabled, ramPresent, hk] using h

theorem mbcReadRam_enabled {s : State} (h : s.RamEnabled) (o : Nat) :
    mbcReadRam o s = Memory.read s.arrays.extram (ramBank s.mbc * 0x2000 + o) := by
  rw [mbcReadRam, extramIndex_enabled h]

theorem mbcReadRam_disabled {s : State} (h : ¬ s.RamEnabled) (o : Nat) : mbcReadRam o s = 0xFF#8 := by
  rw [mbcReadRam, extramIndex_disabled h]

theorem mbcWriteRam_enabled {s : State} (h : s.RamEnabled) (o : Nat) (v : Byte) :
    mbcWriteRam o v s = { s with arrays := { s.arrays with
      extram := Memory.write s.arrays.extram (ramBank s.mbc * 0x2000 + o) v } } := by
  rw [mbcWriteRam, extramIndex_enabled h]

theorem mbcWriteRam_disabled {s : State} (h : ¬ s.RamEnabled) (o : Nat) (v : Byte) : mbcWriteRam o v s = s := by
  rw [mbcWriteRam, extramIndex_disabled h]

/-- A write to the RAM window leaves it enabled. -/
theorem mbcWriteRam_ramEnabled {s : State} (h : s.RamEnabled) (o : Nat) (v : Byte) :
    (mbcWriteRam o v s).RamEnabled := by
  rw [mbcWriteRam_enabled h]
  exact h

/-- What the RAM window reads after a write to it: the bank is one for both, so only the offset counts. -/
theorem mbcReadRam_mbcWriteRam {s : State} (h : s.RamEnabled) (o o' : Nat) (v : Byte) :
    mbcReadRam o' (mbcWriteRam o v s) = if o' = o then v else mbcReadRam o' s := by
  rw [mbcReadRam_enabled (mbcWriteRam_ramEnabled h o v), mbcReadRam_enabled h, mbcWriteRam_enabled h, Memory.read_write]
  simp

/-- The bank in numbers (20_memory.md R250). -/
theorem ramBank_eq (m : Mbc) : ramBank m = if m.mode.toNat = 1 then m.bankHi.toNat else 0 := by
  simp [ramBank, BitVec.toNat_eq]

/-- Settles O25: the window's reads and writes, with RAM and without. -/
theorem externalRam : Obligations.ExternalRam := by
  intro s a v ha ha'
  have hread (t : State) : read8 a t = mbcReadRam (a.toNat - 0xA000) t :=
    read8_of_is (p := .extRam _) ⟨rfl, ha, ha'⟩ nofun t
  have hwrite : write8 a v s = mbcWriteRam (a.toNat - 0xA000) v s :=
    write8_of_is (p := .extRam _) ⟨rfl, ha, ha'⟩ nofun v s
  rw [hread s, hwrite, hread]
  split
  case isTrue h =>
    replace h : s.RamEnabled := h
    rw [← ramBank_eq]
    refine ⟨extramIndex_lt (by omega) (extramIndex_enabled h _), mbcReadRam_enabled h _, ?_,
      mbcWriteRam_enabled h _ v⟩
    rw [mbcReadRam_mbcWriteRam h, if_pos rfl]
  case isFalse h =>
    replace h : ¬ s.RamEnabled := h
    exact ⟨mbcReadRam_disabled h _, mbcWriteRam_disabled h _ v⟩

end Sys2Proof.Machine
end

section
/-! PROOFS. What a store changes of what is read: its own byte (O19), nothing else (O20), both addresses of an
echoed byte (O21), and the two bytes of a word (O22). -/

namespace Sys2Proof.Machine

/-! ### The same byte -/

/-- A plain place reads what was written to it. -/
theorem readPlace_writePlace_same {a : Word} (h : isPlainStore a = true) (v : Byte) (s : State) :
    readPlace (route a) (writePlace (route a) v s) = v := by
  unfold isPlainStore at h
  cases hp : route a <;> simp only [hp, Bool.false_eq_true] at h
  case vram | wram | oam | hram => exact Memory.read_write_same _ _ v
  all_goals rfl

/-- Settles O19: addresses of one byte lead to one place, and a plain place reads what was written to it. -/
theorem storeThenLoad : Obligations.StoreThenLoad := by
  intro s a b v ha hab
  rw [read8, write8, ← route_eq_of_sameByte hab]
  exact readPlace_writePlace_same ha v s

/-! ### Every other byte -/

/-- The RAM window's other offsets read as before. -/
theorem mbcReadRam_mbcWriteRam_ne {o o' : Nat} (h : o' ≠ o) (v : Byte) (s : State) :
    mbcReadRam o' (mbcWriteRam o v s) = mbcReadRam o' s := by
  by_cases hr : s.RamEnabled
  · rw [mbcReadRam_mbcWriteRam hr, if_neg h]
  · rw [mbcWriteRam_disabled hr]

/-- A store to a place that is neither a control register of the MBC nor the boot latch is seen at no other place. -/
theorem readPlace_writePlace_ne {p q : Place} (hqp : q ≠ p) (hrom : ∀ a, p ≠ .rom a) (hboot : p ≠ .boot)
    (v : Byte) (s : State) : readPlace q (writePlace p v s) = readPlace q s := by
  cases p
  case rom a => exact absurd rfl (hrom a)
  case boot => exact absurd rfl hboot
  case unused | ly | unmapped => rfl
  case extRam o =>
    obtain ⟨e, he⟩ := mbcWriteRam_eq o v s
    cases q
    case extRam o' => exact mbcReadRam_mbcWriteRam_ne (by simpa using hqp) v s
    all_goals rw [writePlace, he]; rfl
  case vram o | wram o | oam o | hram o =>
    cases q <;> try rfl
    exact Memory.read_write_ne _ _ _ v (by simpa using hqp)
  all_goals
    cases q <;> try rfl
    exact absurd rfl hqp

/-- A control write is seen in the windows the MBC switches only. -/
theorem readPlace_writePlace_rom {q : Place} (hrom : ∀ k, q = .rom k → k < 0x4000) (hext : ∀ o, q ≠ .extRam o)
    (a : Nat) (v : Byte) (s : State) : readPlace q (writePlace (.rom a) v s) = readPlace q s := by
  obtain ⟨m, hm⟩ := mbcWriteControl_eq a v s
  rw [writePlace, hm]
  cases q
  case rom k => rw [readPlace, readPlace, mbcReadRom_low (hrom k rfl), mbcReadRom_low (hrom k rfl)]
  case extRam o => exact absurd rfl (hext o)
  all_goals rfl

/-- The boot latch is seen in the boot ROM's window only. -/
theorem readPlace_writePlace_boot {q : Place} (hrom : ∀ k, q = .rom k → ¬ k < 0x100) (v : Byte) (s : State) :
    readPlace q (writePlace .boot v s) = readPlace q s := by
  cases q
  case rom k =>
    have hk : ¬ k < 0x100 := hrom k rfl
    simp only [readPlace, hk, false_and, if_false]
    rfl
  all_goals rfl

/-- A store is not seen where it may not be. -/
theorem read8_write8_of_not_affectedBy {a b : Word} (h : ¬ affectedBy b a) (v : Byte) (s : State) :
    read8 a (write8 b v s) = read8 a s := by
  simp only [affectedBy, not_or] at h
  obtain ⟨hsame, hctl, hlatch⟩ := h
  unfold read8 write8
  cases hb : route b
  case rom k =>
    obtain ⟨-, hlow⟩ := route_eq hb
    refine readPlace_writePlace_rom (fun k' ha => ?_) (fun o ha => ?_) k v s
    · obtain ⟨rfl, hk⟩ := route_eq ha; omega
    · obtain ⟨-, ho⟩ := route_eq ha; omega
  case boot =>
    have hb : b = 0xFF50#16 := BitVec.eq_of_toNat_eq (route_eq hb)
    refine readPlace_writePlace_boot (fun k' ha => ?_) v s
    obtain ⟨rfl, -⟩ := route_eq ha
    exact fun hk => hlatch ⟨hb, hk⟩
  case unused | unmapped => rfl
  all_goals
    refine readPlace_writePlace_ne (fun ha => hsame ?_) ?_ ?_ v s
    · exact sameByte_of_route_eq (ha.trans hb.symm) (by simp [hb]) (by simp [hb])
    all_goals nofun

/-- Settles O20: the reads as above; the rest is what every store keeps. -/
theorem storeFrame : Obligations.StoreFrame :=
  ⟨fun s _ _ v h => read8_write8_of_not_affectedBy h v s, fun s b v => write8_keeps b v s⟩

/-! ### Echo RAM -/

/-- Working RAM and its echo store whole bytes. -/
theorem isPlainStore_wram {a : Word} (h : 0xC000 ≤ a.toNat) (h' : a.toNat < 0xFE00) : isPlainStore a = true := by
  rw [isPlainStore, route_of_is (p := .wram _) ⟨rfl, h, h'⟩ nofun]

theorem toNat_ofNat_base_add {base o : Nat} (h : base + o < 0x10000) :
    (BitVec.ofNat 16 (base + o)).toNat = base + o := by
  rw [BitVec.toNat_ofNat]
  exact Nat.mod_eq_of_lt h

/-- Settles O21: below 0x1E00 the two addresses name one byte of working RAM; above it no second address does. -/
theorem echoRam : Obligations.EchoRam := by
  refine ⟨fun s o v ho => ?_, fun s o v a ho ho' ha => ?_⟩
  · have hlow := toNat_ofNat_base_add (show 0xC000 + o < 0x10000 by omega)
    have hecho := toNat_ofNat_base_add (show 0xE000 + o < 0x10000 by omega)
    exact ⟨storeThenLoad s _ _ v (isPlainStore_wram (by omega) (by omega)) (.inr (by omega)),
      storeThenLoad s _ _ v (isPlainStore_wram (by omega) (by omega)) (.inr (by omega))⟩
  · have hb := toNat_ofNat_base_add (show 0xC000 + o < 0x10000 by omega)
    refine read8_write8_of_not_affectedBy ?_ v s
    rintro ((rfl | hsame) | hctl | ⟨hlatch, -⟩)
    · exact ha rfl
    · exact ha (BitVec.eq_of_toNat_eq (by omega))
    · omega
    · have hn : 0xC000 + o = 0xFF50 := by rw [← hb, hlatch]; rfl
      omega

/-! ### Words -/

theorem ofNat_toNat_succ (a : Word) : BitVec.ofNat 16 (a.toNat + 1) = a + 1#16 := by bv_omega

theorem hiByte_eq_ofNat (v : Word) : hiByte v = BitVec.ofNat 8 (v.toNat / 256) := by
  apply BitVec.eq_of_toNat_eq
  have := v.isLt
  rw [hiByte_toNat, BitVec.toNat_ofNat]
  omega

theorem loByte_eq_ofNat (v : Word) : loByte v = BitVec.ofNat 8 v.toNat := by
  apply BitVec.eq_of_toNat_eq
  rw [loByte_toNat, BitVec.toNat_ofNat]

/-- A plain store is seen at its own byte only. -/
theorem not_affectedBy_of_isPlainStore {a b : Word} (hb : isPlainStore b = true) (h : ¬ sameByte a b) :
    ¬ affectedBy b a := by
  rintro (hsame | ⟨hlow, -⟩ | ⟨rfl, -⟩)
  · exact h hsame
  · rw [isPlainStore, route_of_is (p := .rom _) ⟨rfl, hlow⟩ nofun] at hb
    cases hb
  · rw [isPlainStore, route_of_is (p := .boot) (rfl : (0xFF50#16).toNat = 0xFF50) nofun] at hb
    cases hb

/-- Neighbours are two bytes: the echo is 0x2000 away. -/
theorem not_sameByte_succ (a : Word) : ¬ sameByte a (a + 1#16) := by
  rintro (h | ⟨-, ha, -, -, hmod⟩)
  · bv_omega
  · have : (a + 1#16).toNat = a.toNat + 1 := by bv_omega
    omega

/-- Settles O22: a word is its two bytes, and the second store is not seen at the first address. -/
theorem wordAccess : Obligations.WordAccess := by
  refine ⟨fun s a => ?_, fun s a v => ?_, fun s a v ha ha' => ?_⟩
  · rw [ofNat_toNat_succ]
    exact mkWord_toNat _ _
  · rw [ofNat_toNat_succ, ← hiByte_eq_ofNat, ← loByte_eq_ofNat]
    rfl
  · rw [read16, write16, storeThenLoad _ _ _ _ ha' (.inl rfl),
      read8_write8_of_not_affectedBy (not_affectedBy_of_isPlainStore ha' (not_sameByte_succ a)),
      storeThenLoad _ _ _ _ ha (.inl rfl), mkWord_hiByte_loByte]

end Sys2Proof.Machine
end

section
/-! PROOFS. What an instruction changes of what is read: no more than its own stores may (O27). -/

namespace Sys2Proof.Machine

/-! ### The shared operations -/

theorem read8_writeOperand {o : Operand8} {a : Word} {s : State}
    (h : ∀ b ∈ if o = .atHl then [getHl s] else [], ¬ affectedBy b a) (v : Byte) :
    read8 a (writeOperand o v s) = read8 a s := by
  cases o with
  | reg r => exact read8_setReg a r v s
  | atHl => exact read8_write8_of_not_affectedBy (h _ (by simp)) v s

@[simp] theorem read8_aluValue (a : Word) (op : AluOp) (v : Byte) (s : State) :
    read8 a (aluValue op v s) = read8 a s := by
  cases op <;> simp [aluValue]

theorem read8_write16 {a b : Word} (h : ∀ b' ∈ [b, b + 1#16], ¬ affectedBy b' a) (v : Word) (s : State) :
    read8 a (write16 b v s) = read8 a s := by
  rw [write16, read8_write8_of_not_affectedBy (h _ (by simp)), read8_write8_of_not_affectedBy (h _ (by simp))]

theorem read8_push16 {a : Word} {s : State} (h : ∀ b ∈ [s.cpu.sp - 2#16, s.cpu.sp - 1#16], ¬ affectedBy b a)
    (v : Word) : read8 a (push16 v s) = read8 a s := by
  rw [push16_bytes, read8_write8_of_not_affectedBy (h _ (by simp)), read8_write8_of_not_affectedBy (h _ (by simp)),
    read8_cpu_with]

theorem read8_callTo {a : Word} {s : State} (h : ∀ b ∈ [s.cpu.sp - 2#16, s.cpu.sp - 1#16], ¬ affectedBy b a)
    (t : Word) : read8 a (callTo t s) = read8 a s := by
  rw [callTo, read8_setPc, read8_push16 h]

/-- A conditional form reads as before where the taken one does, if it is taken. -/
theorem read8_whenCond {cc : Cond} {e : State → State} {a : Word} {s : State}
    (h : condHolds cc s.cpu.f = true → read8 a (e s) = read8 a s) : read8 a (whenCond cc e s) = read8 a s := by
  unfold whenCond
  split
  · exact h ‹_›
  · rfl

/-- The r8 code of (HL) (30_encoding.md R303). -/
theorem operand8_fieldZ_eq_atHl_iff (op2 : Byte) : operand8 (fieldZ op2) = .atHl ↔ fieldZ op2 = 6 := by
  revert op2
  decide

/-- A row of the CB table stores at HL, where (HL) is its operand, and BIT nowhere. -/
theorem read8_cbEffect {op2 : Byte} {a : Word} {s : State}
    (h : ∀ b ∈ if fieldZ op2 = 6 ∧ fieldX op2 ≠ 1 then [getHl s] else [], ¬ affectedBy b a) :
    read8 a (cbEffect op2 s) = read8 a s := by
  have hstore (hx : fieldX op2 ≠ 1) (v : Byte) : read8 a (writeOperand (operand8 (fieldZ op2)) v s) = read8 a s :=
    read8_writeOperand (by simpa only [operand8_fieldZ_eq_atHl_iff, hx, ne_eq, not_false_eq_true, and_true] using h) v
  unfold cbEffect
  split
  case h_2 => exact read8_setFlags a _ s
  case h_1 hx => rw [rotOperand, read8_setFlags, hstore (by omega)]
  case h_3 hx => exact hstore (by omega) _
  case h_4 hx _ => exact hstore hx _

/-! ### Every form -/

/-- A form changes no read but where its own stores may. -/
theorem Form.read8_run {f : Form} {a : Word} {s : State} (h : ∀ b ∈ f.stores s, ¬ affectedBy b a) :
    read8 a (f.run s) = read8 a s := by
  cases f <;> simp only [Form.run, Form.stores] at h ⊢
  case alu | aluImm => simp [aluOperand]
  case inc | dec | rot => simp [incOperand, decOperand, rotOperand, read8_writeOperand h]
  case res | set | ldImm => exact read8_writeOperand h _
  case daa | cpl | scf | ccf => simp [daaA, complementA, setCarry, complementCarry]
  case addHl | incPair | decPair => simp [addHlPair, Machine.incPair, Machine.decPair]
  case addSp | ldHlSp => simp [addSpDisp, ldHlSpDisp]
  case rotA | bit => simp [Machine.rotA, bitOperand]
  case jp | jpHl | jr => exact read8_setPc a _ s
  case jpCond | jrCond => exact read8_whenCond fun _ => read8_setPc a _ s
  case call | rst => exact read8_callTo h _
  case callCond => exact read8_whenCond fun hcc => read8_callTo (by simpa only [hcc, if_true] using h) _
  case ret => simp [returnPop]
  case retCond => exact read8_whenCond fun _ => by simp [returnPop]
  case reti => simp [returnFromInterrupt]
  case push => exact read8_push16 h _
  case pop => simp [popPair]
  case ldReg r o => exact read8_setReg a r _ s
  case ldHlReg => exact read8_write8_of_not_affectedBy (h _ (by simp)) _ s
  case ldA | ldAHl => simp [loadA, loadAThenMove]
  case stA => exact read8_write8_of_not_affectedBy (h _ (by simp)) _ s
  case stAHl =>
    rw [storeAThenMove, read8_setPair]
    exact read8_write8_of_not_affectedBy (h _ (by simp)) _ s
  case stSp => exact read8_write16 h _ s
  case prefixCb => exact (read8_cbEffect (op2 := (fetch8 s).1) (s := (fetch8 s).2) h).trans (read8_setPc a _ s)
  all_goals simp

/-- Settles O27: every instruction has a form, and a form changes no read but where its own stores may. -/
theorem instructionMemoryFrame : Obligations.InstructionMemoryFrame := by
  intro i s t a hx h
  obtain ⟨f, rfl⟩ := Form.cover i
  rw [exec_form, Host.Outcome.next.injEq] at hx
  rw [stores_form] at h
  exact hx ▸ f.read8_run h

end Sys2Proof.Machine
end

section
/-! PROOFS. The encoding: the decoder reads back what the encoder writes (O1), and what it reads is that instruction's
encoding (O2); with it the lengths (O3), the undefined opcodes (O4) and sample words (O5). -/

namespace Sys2Proof.Machine

/-! ### The decoder reads back what the encoder writes -/

/-- Where an opcode and its operand bytes are as many as the opcode fixes, what follows them does not matter. -/
theorem decodeBytes_append {op : Byte} {operands rest : List Byte} {i : Instr}
    (hl : lengthOf op = operands.length + 1)
    (hi : decode3 op ((operands ++ rest).getD 0 0#8) ((operands ++ rest).getD 1 0#8) = i) :
    decodeBytes (op :: operands ++ rest) = .instr i rest := by
  rw [List.cons_append, decodeBytes_complete (by simp [hl]), hi, hl, Nat.add_sub_cancel, List.drop_left]

/-- A row whose operand is a word takes it low byte first (30_encoding.md R308). -/
theorem decodeBytes_append_word {op : Byte} {rest : List Byte} (row : Word → Instr) (n : Word)
    (hl : lengthOf op = 3) (hrow : ∀ b1 b2, decode3 op b1 b2 = row (mkWord b2 b1)) :
    decodeBytes ([op, loByte n, hiByte n] ++ rest) = .instr (row n) rest :=
  decodeBytes_append hl ((hrow _ _).trans (congrArg row (mkWord_hiByte_loByte n)))

/-- A row of the CB table is read by its second byte. -/
theorem decodeBytes_append_cb {op2 : Byte} {rest : List Byte} {i : Instr} (hi : decodeCb op2 = i) :
    decodeBytes ([0xCB#8, op2] ++ rest) = .instr i rest :=
  hi ▸ decodeBytes_cb op2 rest

/-! The four blocks of the CB table (30_encoding.md R307, R310), by the codes of their fields. -/

theorem decodeCb_rot (op : RotOp) (o : Operand8) : decodeCb (8#8 * rotCode op + r8Code o) = rotInstr op o := by
  cases op <;> rcases o with (_ | _ | _ | _ | _ | _ | _) | _ <;> rfl

theorem decodeCb_bit (b : Fin 8) (o : Operand8) :
    decodeCb (0x40#8 + 8#8 * BitVec.ofNat 8 b.val + r8Code o) = bitInstr b o := by
  fin_cases b <;> rcases o with (_ | _ | _ | _ | _ | _ | _) | _ <;> rfl

theorem decodeCb_res (b : Fin 8) (o : Operand8) :
    decodeCb (0x80#8 + 8#8 * BitVec.ofNat 8 b.val + r8Code o) = resInstr b o := by
  fin_cases b <;> rcases o with (_ | _ | _ | _ | _ | _ | _) | _ <;> rfl

theorem decodeCb_set (b : Fin 8) (o : Operand8) :
    decodeCb (0xC0#8 + 8#8 * BitVec.ofNat 8 b.val + r8Code o) = setInstr b o := by
  fin_cases b <;> rcases o with (_ | _ | _ | _ | _ | _ | _) | _ <;> rfl

/-- The decoder reads every form back from its bytes, a lone 0xCB apart: once the fields are chosen the opcode is a
number, and the operand bytes stay open. -/
theorem decodeBytes_form (f : Form) (hf : f.instr.WellFormed) (rest : List Byte) :
    decodeBytes (f.bytes ++ rest) = .instr f.instr rest := by
  cases f with
  | prefixCb => exact absurd rfl hf
  | jp n => exact decodeBytes_append_word .jpN16 n rfl fun _ _ => rfl
  | call n => exact decodeBytes_append_word .callN16 n rfl fun _ _ => rfl
  | stSp n => exact decodeBytes_append_word .ldAtN16Sp n rfl fun _ _ => rfl
  | jpCond cc n =>
    exact decodeBytes_append_word (jpCondInstr cc) n (by cases cc <;> rfl) fun _ _ => by cases cc <;> rfl
  | callCond cc n =>
    exact decodeBytes_append_word (callCondInstr cc) n (by cases cc <;> rfl) fun _ _ => by cases cc <;> rfl
  | ldPair p n =>
    exact decodeBytes_append_word (ldPairInstr p) n (by cases p <;> rfl) fun _ _ => by cases p <;> rfl
  | ldA x =>
    cases x with
    | abs n => exact decodeBytes_append_word .ldAAtN16 n rfl fun _ _ => rfl
    | _ => exact decodeBytes_append rfl rfl
  | stA x =>
    cases x with
    | abs n => exact decodeBytes_append_word .ldAtN16A n rfl fun _ _ => rfl
    | _ => exact decodeBytes_append rfl rfl
  | rot op o => exact decodeBytes_append_cb (decodeCb_rot op o)
  | bit b o => exact decodeBytes_append_cb (decodeCb_bit b o)
  | res b o => exact decodeBytes_append_cb (decodeCb_res b o)
  | set b o => exact decodeBytes_append_cb (decodeCb_set b o)
  | alu op o => cases op <;> rcases o with (_ | _ | _ | _ | _ | _ | _) | _ <;> exact decodeBytes_append rfl rfl
  | inc o | dec o | ldImm o _ => rcases o with (_ | _ | _ | _ | _ | _ | _) | _ <;> exact decodeBytes_append rfl rfl
  | ldReg r o => cases r <;> rcases o with (_ | _ | _ | _ | _ | _ | _) | _ <;> exact decodeBytes_append rfl rfl
  | ldHlReg x | aluImm x _ | rotA x | addHl x | incPair x | decPair x | push x | pop x | jrCond x _ | retCond x
  | ldAHl x | stAHl x | undefined x => cases x <;> exact decodeBytes_append rfl rfl
  | rst y => fin_cases y <;> exact decodeBytes_append rfl rfl
  | _ => exact decodeBytes_append rfl rfl

/-- Settles O1: every instruction has a form, and the decoder reads every form back from its bytes. -/
theorem decodeOfEncode : Obligations.DecodeOfEncode := by
  intro i rest hw
  obtain ⟨f, rfl⟩ := Form.cover i
  rw [encode_form]
  exact decodeBytes_form f hw rest

/-! ### What the decoder reads is the encoding of its answer -/

/-- Every instruction has 1 to 3 bytes (30_encoding.md R301). -/
theorem lengthOf_bounds (op : Byte) : 1 ≤ lengthOf op ∧ lengthOf op ≤ 3 := by
  revert op
  decide

/-- A row of the CB table is 0xCB and its own byte (30_encoding.md R310, R313). -/
theorem encode_decodeCb (op2 : Byte) : encode (decodeCb op2) = [0xCB#8, op2] := by
  revert op2
  decide +kernel

/-- Each row of the base table read off, with its operand bytes left open; a 16-bit operand is still the two halves of
the word the decoder made of them. -/
theorem encode_decode3_halves (op b1 b2 : Byte) : encode (decode3 op b1 b2) =
    if lengthOf op = 3 then [op, loByte (mkWord b2 b1), hiByte (mkWord b2 b1)] else [op, b1].take (lengthOf op) := by
  obtain ⟨n, hn, rfl⟩ : ∃ n < 256, op = BitVec.ofNat 8 n := ⟨op.toNat, op.isLt, by simp⟩
  rcases Nat.lt_trichotomy n 0xCB with hlow | rfl | hhigh
  · interval_cases n <;> rfl
  · exact encode_decodeCb b1
  · interval_cases n <;> rfl

/-- The instruction read from three bytes is encoded by as many of them as the first byte fixes. -/
theorem encode_decode3 (op b1 b2 : Byte) : encode (decode3 op b1 b2) = [op, b1, b2].take (lengthOf op) := by
  obtain ⟨hmin, hmax⟩ := lengthOf_bounds op
  rw [encode_decode3_halves, loByte_mkWord, hiByte_mkWord]
  interval_cases lengthOf op <;> rfl

/-- Where a list has at least `k` bytes, its first `k` are those of the three the decoder looks at. -/
theorem take_three_getD {k : Nat} (hk : k ≤ 3) (op : Byte) (tail : List Byte) (h : k ≤ tail.length + 1) :
    [op, tail.getD 0 0#8, tail.getD 1 0#8].take k = (op :: tail).take k := by
  rcases tail with _ | ⟨b1, _ | ⟨b2, tail⟩⟩
  all_goals
    simp only [List.length_nil, List.length_cons] at h
    interval_cases k <;> rfl

/-- Settles O2: the bytes a complete instruction takes are the ones its encoding writes, and the others are the rest. -/
theorem encodeOfDecode : Obligations.EncodeOfDecode := by
  intro bs rest i h
  rcases decodeBytes_cases h with ⟨rfl, rfl, rfl⟩ | ⟨op, tail, rfl, hl, rfl, rfl⟩
  · rfl
  · obtain ⟨hmin, hmax⟩ := lengthOf_bounds op
    rw [encode_decode3, take_three_getD hmax op tail hl, ← List.drop_cons (a := op) hmin, List.take_append_drop]

/-! ### Lengths, undefined opcodes and sample words -/

/-- Settles O3: the encoding of what is decoded has the length its first byte fixes; the named bytes are single rows. -/
theorem firstByteFixesLength : Obligations.FirstByteFixesLength := by
  intro op b1 b2
  obtain ⟨hmin, hmax⟩ := lengthOf_bounds op
  refine ⟨?_, hmin, hmax, ?_, ?_, ?_⟩
  · rw [Instr.length, encode_decode3, List.length_take]
    exact Nat.min_eq_left hmax
  · rintro rfl
    exact ⟨rfl, rfl⟩
  · revert op
    decide
  · rintro rfl
    rfl

/-- Settles O4: the first byte alone tells an undefined opcode, the CB table has none, and each of the eleven has the
undefined form. -/
theorem undefinedOpcodesAreEleven : Obligations.UndefinedOpcodesAreEleven := by
  refine ⟨decode3_undefinedOpcode?, decodeCb_undefinedOpcode?, fun i op h => ⟨?_, exec_undefinedOpcode h⟩⟩
  obtain ⟨u, rfl, rfl⟩ := exists_undefinedOp h
  exact encode_form (.undefined u)

/-- Settles O5: each word is decoded by evaluation. -/
theorem sampleWordsDecode : Obligations.SampleWordsDecode := by
  unfold Obligations.SampleWordsDecode
  decide

end Sys2Proof.Machine
end

section
/-! PROOFS. The rows of 8-bit arithmetic and logic: ADD and ADC (O30), SUB and SBC (O31), XOR and OR (O32), AND and CP
(O33), INC and DEC (O34), DAA, CPL, SCF and CCF (O35). -/

namespace Sys2Proof.Machine

/-! ### Rows of a form -/

/-- The row of a form says its bytes, its cost and what it does to every state. -/
theorem Form.rowSays (f : Form) {bytes : List Byte} {cost : State → Nat} {effect : State → State}
    (hbytes : f.bytes = bytes) (hcost : ∀ s, f.cost s = cost s) (heffect : ∀ s, f.run s = effect s) :
    RowSays f.instr bytes cost effect :=
  ⟨(encode_form f).trans hbytes, fun s => ⟨(cycles_form f s).trans (hcost s),
    (exec_form f s).trans (congrArg _ (heffect s))⟩⟩

/-- The row of an ALU operation on an r8 operand (30_encoding.md R306). -/
theorem rowSays_alu (op : AluOp) (o : Operand8) {effect : State → State}
    (h : ∀ s, aluValue op (readOperand o s) s = effect s) :
    RowSays (aluInstr op o) [0x80#8 + 8#8 * aluCode op + r8Code o] (costOf o 4 8) effect :=
  (Form.alu op o).rowSays rfl (fun _ => rfl) h

/-- The row of an ALU operation on an immediate byte (30_encoding.md R306). -/
theorem rowSays_aluImm (op : AluOp) (n : Byte) {effect : State → State} (h : ∀ s, aluValue op n s = effect s) :
    RowSays (aluImmInstr op n) [0xC6#8 + 8#8 * aluCode op, n] (fun _ => 8) effect :=
  (Form.aluImm op n).rowSays rfl (fun _ => rfl) h

/-- Every ALU operation but CP replaces A and the flags by its result and its flags. -/
theorem aluValue_eq_withAF {op : AluOp} (hop : op ≠ .cp) (v : Byte) (s : State) :
    aluValue op v s =
      withAF (aluCompute op s.cpu.a v s.cpu.f.c).res (aluCompute op s.cpu.a v s.cpu.f.c).flags s := by
  cases op with
  | cp => exact absurd rfl hop
  | _ => rfl

/-! ### ADD, ADC, XOR and OR: the model computes the statement's own formulas -/

/-- Settles O30: `add8` is the statement's sum, with the carry in for ADC. -/
theorem additionRows : Obligations.AdditionRows := by
  refine ⟨fun o => ⟨rowSays_alu .add o fun s => ?_, rowSays_alu .adc o fun s => ?_⟩,
    fun n => ⟨rowSays_aluImm .add n fun s => ?_, rowSays_aluImm .adc n fun s => ?_⟩⟩
  all_goals exact aluValue_eq_withAF (by decide) _ s

/-- Settles O32: `logic8` of the exclusive or, and of the or. -/
theorem xorOrRows : Obligations.XorOrRows := by
  refine ⟨fun o => ⟨rowSays_alu .xor o fun s => ?_, rowSays_alu .or o fun s => ?_⟩,
    fun n => ⟨rowSays_aluImm .xor n fun s => ?_, rowSays_aluImm .or n fun s => ?_⟩⟩
  all_goals exact aluValue_eq_withAF (by decide) _ s

/-! ### SUB, SBC and CP -/

/-- The model adds 512 to stay in the natural numbers; the byte is that of the difference of integers. -/
theorem sub8_res (a b : Byte) (cin : Bool) :
    (sub8 a b cin).res = BitVec.ofInt 8 (a.toNat - b.toNat - bitNat cin) := by
  have hcin : bitNat cin ≤ 1 := by cases cin <;> decide
  apply BitVec.eq_of_toNat_eq
  simp only [sub8, BitVec.toNat_ofNat, BitVec.toNat_ofInt]
  omega

/-- A byte is 0 just when the number it was made of is 0 modulo 256. -/
theorem ofInt_eq_zero_iff (i : Int) : BitVec.ofInt 8 i = 0#8 ↔ i % 256 = 0 := by
  rw [← BitVec.toNat_inj, BitVec.toNat_ofInt]
  change (i % 256).toNat = 0 ↔ _
  omega

/-- R402's subtraction, with the difference and Z read off the integers. -/
theorem sub8_eq (a b : Byte) (cin : Bool) :
    sub8 a b cin =
      { res := BitVec.ofInt 8 (a.toNat - b.toNat - bitNat cin)
        flags := {
          z := decide (((a.toNat : Int) - b.toNat - bitNat cin) % 256 = 0)
          n := true
          h := decide (a.toNat % 16 < b.toNat % 16 + bitNat cin)
          c := decide (a.toNat < b.toNat + bitNat cin) } } := by
  have hz : (sub8 a b cin).flags.z = decide ((sub8 a b cin).res = 0#8) := rfl
  simp only [sub8_res, ofInt_eq_zero_iff] at hz
  rw [← sub8_res, ← hz]
  rfl

/-- Settles O31: SUB and SBC replace A and the flags by R402's result. -/
theorem subtractionRows : Obligations.SubtractionRows := by
  refine ⟨fun o => ⟨rowSays_alu .sub o fun s => ?_, rowSays_alu .sbc o fun s => ?_⟩,
    fun n => ⟨rowSays_aluImm .sub n fun s => ?_, rowSays_aluImm .sbc n fun s => ?_⟩⟩
  all_goals
    rw [aluValue_eq_withAF (by decide), aluCompute, sub8_eq]
    rfl

/-- CP's Z: the difference is 0 just when the operand is A. -/
theorem sub8_flags_z (a b : Byte) : (sub8 a b false).flags.z = decide (a = b) := by
  have ha := a.isLt
  have hb := b.isLt
  rw [sub8_eq, decide_eq_decide, ← BitVec.toNat_inj, bitNat_false]
  omega

/-- CP leaves A and sets the flags of the subtraction. -/
theorem aluValue_cp (v : Byte) (s : State) :
    aluValue .cp v s =
      withAF s.cpu.a
        { z := decide (s.cpu.a = v), n := true
          h := decide (s.cpu.a.toNat % 16 < v.toNat % 16), c := decide (s.cpu.a.toNat < v.toNat) } s := by
  rw [← sub8_flags_z]
  rfl

/-- Settles O33: AND is `logic8` with H set, CP the flags of `sub8`. -/
theorem andCompareRows : Obligations.AndCompareRows := by
  have hand (v : Byte) (s : State) := aluValue_eq_withAF (op := .and) (by decide) v s
  exact ⟨fun o => ⟨rowSays_alu .and o fun s => hand _ s, rowSays_alu .cp o fun s => aluValue_cp _ s⟩,
    fun n => ⟨rowSays_aluImm .and n fun s => hand n s, rowSays_aluImm .cp n fun s => aluValue_cp n s⟩⟩

/-! ### INC and DEC -/

theorem lowNibble_toNat (v : Byte) : (v &&& 0x0F#8).toNat = v.toNat % 16 := by
  rw [BitVec.toNat_and]
  exact Nat.and_two_pow_sub_one_eq_mod v.toNat 4

/-- INC's Z, N and H by the old value (40_alu8.md R427). -/
theorem inc8_eq (old : Byte) (f : Flags) :
    inc8 old f =
      { res := BitVec.ofNat 8 (old.toNat + 1)
        flags := {
          z := decide (old.toNat = 255), n := false, h := decide (old.toNat % 16 = 15), c := f.c } } := by
  have hz : old + 1#8 = 0#8 ↔ old.toNat = 255 := by bv_omega
  have hh : old &&& 0x0F#8 = 0x0F#8 ↔ old.toNat % 16 = 15 := by rw [← BitVec.toNat_inj, lowNibble_toNat]; rfl
  have hres : old + 1#8 = BitVec.ofNat 8 (old.toNat + 1) := by bv_omega
  simp only [inc8, hz, hh]
  rw [hres]

/-- DEC's Z, N and H by the old value (40_alu8.md R429). -/
theorem dec8_eq (old : Byte) (f : Flags) :
    dec8 old f =
      { res := BitVec.ofNat 8 (old.toNat + 255)
        flags := {
          z := decide (old.toNat = 1), n := true, h := decide (old.toNat % 16 = 0), c := f.c } } := by
  have hz : old - 1#8 = 0#8 ↔ old.toNat = 1 := by bv_omega
  have hh : old &&& 0x0F#8 = 0x00#8 ↔ old.toNat % 16 = 0 := by rw [← BitVec.toNat_inj, lowNibble_toNat]; rfl
  have hres : old - 1#8 = BitVec.ofNat 8 (old.toNat + 255) := by bv_omega
  simp only [dec8, hz, hh]
  rw [hres]

/-- Settles O34: both write their result back to the operand and then replace the flags. -/
theorem incDec8Rows : Obligations.IncDec8Rows := by
  intro o
  constructor
  · refine (Form.inc o).rowSays rfl (fun _ => rfl) fun s => ?_
    rw [Form.run, incOperand, inc8_eq]
  · refine (Form.dec o).rowSays rfl (fun _ => rfl) fun s => ?_
    rw [Form.run, decOperand, dec8_eq]

/-! ### DAA, CPL, SCF and CCF -/

/-- R431's condition for the adjustment by 0x60, which is also the new carry. -/
abbrev DaaHigh (a : Byte) (f : Flags) : Prop := f.c = true ∨ (f.n = false ∧ a.toNat > 0x99)

/-- R431's condition for the adjustment by 0x06. -/
abbrev DaaLow (a : Byte) (f : Flags) : Prop := f.h = true ∨ (f.n = false ∧ a.toNat % 16 > 9)

/-- R431's two adjustments as one number. -/
def daaAdjustment (a : Byte) (f : Flags) : Nat :=
  (if DaaHigh a f then 0x60 else 0) + (if DaaLow a f then 0x06 else 0)

theorem daa8_flags (a : Byte) (f : Flags) :
    (daa8 a f).flags =
      { z := decide ((daa8 a f).res = 0#8), n := f.n, h := false, c := decide (DaaHigh a f) } := by
  obtain ⟨z, n, h, c⟩ := f
  cases n with
  | true => simp [daa8, DaaHigh]
  | false => simp [daa8, DaaHigh]

/-- After a subtraction both adjustments are taken away, and the old C and H alone choose them. -/
theorem daa8_res_of_n {f : Flags} (hn : f.n = true) (a : Byte) :
    (daa8 a f).res = BitVec.ofNat 8 (a.toNat + 256 - daaAdjustment a f) := by
  have hhigh : DaaHigh a f ↔ f.c = true := by simp [DaaHigh, hn]
  have hlow : DaaLow a f ↔ f.h = true := by simp [DaaLow, hn]
  simp only [daa8, daaAdjustment, hn, hhigh, hlow, if_true]
  split <;> split <;> bv_omega

/-- After an addition both adjustments are added. The model's second test looks at the adjusted A, whose low nibble is
still A's. -/
theorem daa8_res_of_not_n {f : Flags} (hn : f.n = false) (a : Byte) :
    (daa8 a f).res = BitVec.ofNat 8 (a.toNat + daaAdjustment a f) := by
  have hhigh : DaaHigh a f ↔ (f.c || decide (a.toNat > 0x99)) = true := by simp [DaaHigh, hn]
  have hnibble : ((if DaaHigh a f then a + 0x60#8 else a) &&& 0x0F#8).toNat = a.toNat % 16 := by
    rw [lowNibble_toNat]
    split <;> bv_omega
  have hlow : DaaLow a f ↔ (f.h || decide (a.toNat % 16 > 0x09)) = true := by simp [DaaLow, hn]
  simp only [daa8, daaAdjustment, hn, ← hhigh, hnibble, ← hlow, Bool.false_eq_true, if_false]
  split <;> split <;> bv_omega

theorem daa8_res (a : Byte) (f : Flags) :
    (daa8 a f).res =
      BitVec.ofNat 8 (if f.n then a.toNat + 256 - daaAdjustment a f else a.toNat + daaAdjustment a f) := by
  split
  case isTrue hn => exact daa8_res_of_n hn a
  case isFalse hn => exact daa8_res_of_not_n (Bool.eq_false_iff.mpr hn) a

/-- The complement takes a byte away from 255. -/
theorem not_eq_ofNat (a : Byte) : ~~~a = BitVec.ofNat 8 (255 - a.toNat) := by
  apply BitVec.eq_of_toNat_eq
  rw [BitVec.toNat_not, BitVec.toNat_ofNat]
  omega

/-- Settles O35: DAA by R431's one adjustment, CPL by taking A away from 255, SCF and CCF as the model writes them. -/
theorem accumulatorFlagRows : Obligations.AccumulatorFlagRows := by
  refine ⟨Form.daa.rowSays rfl (fun _ => rfl) fun s => ?_, Form.cpl.rowSays rfl (fun _ => rfl) fun s => ?_,
    Form.scf.rowSays rfl (fun _ => rfl) fun _ => rfl, Form.ccf.rowSays rfl (fun _ => rfl) fun _ => rfl⟩
  · rw [Form.run, daaA, daa8_flags, daa8_res]
    rfl
  · rw [Form.run, complementA, not_eq_ofNat]
    rfl

end Sys2Proof.Machine
end

section
/-! PROOFS. The rows of 16-bit arithmetic: ADD HL,rr, INC rr, DEC rr, ADD SP,e8 and LD HL,SP+e8 (O36). -/

namespace Sys2Proof.Machine

/-- DEC of a word, on its number: taking 1 away is adding 65535 modulo 65536 (41_alu16.md R452, decision D4). -/
theorem word_sub_one (w : Word) : w - 1#16 = BitVec.ofNat 16 (w.toNat + 65535) := by bv_omega

/-- SP plus the displacement as a signed number; H and C of the low bytes as unsigned numbers (41_alu16.md R453). -/
theorem addSp16_eq (sp : Word) (e : Byte) :
    addSp16 sp e =
      (BitVec.ofInt 16 (sp.toNat + e.toInt),
       { z := false, n := false, h := decide (sp.toNat % 16 + e.toNat % 16 > 15)
         c := decide (sp.toNat % 256 + e.toNat > 255) }) := by
  rw [addSp16, add_sext16]

/-- Settles O36: `addHl16` is the statement's sum; INC, DEC and the displacement wrap as the sums of numbers do. -/
theorem arithmetic16Rows : Obligations.Arithmetic16Rows := by
  refine ⟨fun p => ⟨?addHl, ?inc, ?dec⟩, fun e => ⟨?addSp, ?ldHlSp⟩⟩
  case addHl => exact (Form.addHl p).rowSays rfl (fun _ => rfl) fun _ => rfl
  case inc =>
    refine (Form.incPair p).rowSays rfl (fun _ => rfl) fun s => ?_
    rw [Form.run, incPair, ofNat_toNat_succ]
  case dec =>
    refine (Form.decPair p).rowSays rfl (fun _ => rfl) fun s => ?_
    rw [Form.run, decPair, word_sub_one]
  case addSp =>
    refine (Form.addSp e).rowSays rfl (fun _ => rfl) fun s => ?_
    rw [Form.run, addSpDisp, addSp16_eq]
    rfl
  case ldHlSp =>
    refine (Form.ldHlSp e).rowSays rfl (fun _ => rfl) fun s => ?_
    rw [Form.run, ldHlSpDisp, addSp16_eq]

end Sys2Proof.Machine
end

section
/-! PROOFS. The rows of rotates, shifts and bits: RLCA, RRCA, RLA and RRA (O37), RLC, RL and SLA (O38), RRC, RR, SRA and
SRL (O39), SWAP (O40), BIT, RES and SET (O41). -/

namespace Sys2Proof.Machine

/-! ### Bits of a byte, on its number -/

theorem getLsbD_seven (v : Byte) : v.getLsbD 7 = decide (128 ≤ v.toNat) := BitVec.msb_eq_decide v

theorem getLsbD_zero (v : Byte) : v.getLsbD 0 = decide (v.toNat % 2 = 1) := Nat.testBit_zero v.toNat

theorem highBit_toNat (v : Byte) : (v >>> 7).toNat = v.toNat / 128 := by bv_omega

theorem lowBit_toNat (v : Byte) : (v &&& 1#8).toNat = v.toNat % 2 := by
  rw [BitVec.toNat_and]
  exact Nat.and_one_is_mod v.toNat

theorem carryBit_toNat (c : Bool) : (if c then 1#8 else 0#8).toNat = if c then 1 else 0 := by cases c <;> rfl

/-- Where one byte's number is a multiple of `2 ^ k` and the other's is below it, no bit is in both: their or is their
sum. -/
theorem or_toNat_of_lt {x y : Byte} {k a : Nat} (hx : x.toNat = 2 ^ k * a) (hy : y.toNat < 2 ^ k) :
    (x ||| y).toNat = x.toNat + y.toNat := by
  rw [BitVec.toNat_or, hx, Nat.two_pow_add_eq_or_of_lt hy]

/-- Moved left by one, with a bit entering at bit 0. -/
theorem shiftLeft_or_bit (v : Byte) {bit : Byte} (hbit : bit.toNat < 2) :
    v <<< 1 ||| bit = BitVec.ofNat 8 (v.toNat * 2 + bit.toNat) := by
  have hv : (v <<< 1).toNat = 2 ^ 1 * (v.toNat % 128) := by bv_omega
  apply BitVec.eq_of_toNat_eq
  rw [or_toNat_of_lt hv hbit, hv, BitVec.toNat_ofNat]
  omega

/-- Moved right by one, with a bit entering at bit 7. -/
theorem shiftRight_or_bit (v : Byte) {bit : Byte} (hbit : bit.toNat < 2) :
    v >>> 1 ||| bit <<< 7 = BitVec.ofNat 8 (v.toNat / 2 + bit.toNat * 128) := by
  have hv : (v >>> 1).toNat = v.toNat / 2 := by bv_omega
  have hlow : (v >>> 1).toNat < 2 ^ 7 := by bv_omega
  have htop : (bit <<< 7).toNat = 2 ^ 7 * bit.toNat := by bv_omega
  apply BitVec.eq_of_toNat_eq
  rw [BitVec.or_comm, or_toNat_of_lt htop hlow, htop, hv, BitVec.toNat_ofNat]
  omega

/-! ### The value and the bit out of each rotate and shift -/

theorem rotValue_rlc (v : Byte) (c : Bool) :
    rotValue .rlc v c = (BitVec.ofNat 8 (v.toNat * 2 + v.toNat / 128), decide (128 ≤ v.toNat)) := by
  have hbit : (v >>> 7).toNat < 2 := by bv_omega
  rw [rotValue, shiftLeft_or_bit v hbit, highBit_toNat, getLsbD_seven]

theorem rotValue_rl (v : Byte) (c : Bool) :
    rotValue .rl v c = (BitVec.ofNat 8 (v.toNat * 2 + if c then 1 else 0), decide (128 ≤ v.toNat)) := by
  have hbit : (if c then 1#8 else 0#8).toNat < 2 := by cases c <;> decide
  rw [rotValue, shiftLeft_or_bit v hbit, carryBit_toNat, getLsbD_seven]

theorem rotValue_sla (v : Byte) (c : Bool) :
    rotValue .sla v c = (BitVec.ofNat 8 (v.toNat * 2), decide (128 ≤ v.toNat)) := by
  have hv : v <<< 1 = BitVec.ofNat 8 (v.toNat * 2) := by bv_omega
  rw [rotValue, hv, getLsbD_seven]

theorem rotValue_rrc (v : Byte) (c : Bool) :
    rotValue .rrc v c = (BitVec.ofNat 8 (v.toNat / 2 + v.toNat % 2 * 128), decide (v.toNat % 2 = 1)) := by
  have hbit : (v &&& 1#8).toNat < 2 := by rw [lowBit_toNat]; omega
  rw [rotValue, shiftRight_or_bit v hbit, lowBit_toNat, getLsbD_zero]

theorem rotValue_rr (v : Byte) (c : Bool) :
    rotValue .rr v c = (BitVec.ofNat 8 (v.toNat / 2 + (if c then 1 else 0) * 128), decide (v.toNat % 2 = 1)) := by
  have hbit : (if c then 1#8 else 0#8).toNat < 2 := by cases c <;> decide
  rw [rotValue, shiftRight_or_bit v hbit, carryBit_toNat, getLsbD_zero]

/-- SRA keeps bit 7 by a mask, which is the old bit 7 entering again. -/
theorem rotValue_sra (v : Byte) (c : Bool) :
    rotValue .sra v c = (BitVec.ofNat 8 (v.toNat / 2 + v.toNat / 128 * 128), decide (v.toNat % 2 = 1)) := by
  have hbit : (v >>> 7).toNat < 2 := by bv_omega
  have hmask : v &&& 0x80#8 = v >>> 7 <<< 7 :=
    (BitVec.shiftLeft_ushiftRight (x := v) (n := 7)).symm
  rw [rotValue, hmask, shiftRight_or_bit v hbit, highBit_toNat, getLsbD_zero]

theorem rotValue_srl (v : Byte) (c : Bool) :
    rotValue .srl v c = (BitVec.ofNat 8 (v.toNat / 2), decide (v.toNat % 2 = 1)) := by
  have hv : v >>> 1 = BitVec.ofNat 8 (v.toNat / 2) := by bv_omega
  rw [rotValue, hv, getLsbD_zero]

theorem rotValue_swap (v : Byte) (c : Bool) :
    rotValue .swap v c = (BitVec.ofNat 8 (v.toNat % 16 * 16 + v.toNat / 16), false) := by
  have hhigh : ((v &&& 0x0F#8) <<< 4).toNat = 2 ^ 4 * (v.toNat % 16) := by
    rw [BitVec.toNat_shiftLeft, lowNibble_toNat, Nat.shiftLeft_eq]
    omega
  have hlow : (v >>> 4).toNat = v.toNat / 16 := by bv_omega
  have hlt : (v >>> 4).toNat < 2 ^ 4 := by bv_omega
  have hv : (v &&& 0x0F#8) <<< 4 ||| v >>> 4 = BitVec.ofNat 8 (v.toNat % 16 * 16 + v.toNat / 16) := by
    apply BitVec.eq_of_toNat_eq
    rw [or_toNat_of_lt hhigh hlt, hhigh, hlow, BitVec.toNat_ofNat]
    omega
  rw [rotValue, hv]

/-! ### The rows of the rotates and shifts -/

/-- The row of an accumulator rotate, from its value and the bit out: Z is 0 (42_rotate_shift_bit.md R501 to R504). -/
theorem rowSays_rotA (op : ARot) {res : State → Byte} {out : State → Bool}
    (h : ∀ s, rotValue op.op s.cpu.a s.cpu.f.c = (res s, out s)) :
    RowSays op.instr [op.code] (fun _ => 4) fun s =>
      withAF (res s) { z := false, n := false, h := false, c := out s } s := by
  refine (Form.rotA op).rowSays rfl (fun _ => rfl) fun s => ?_
  rw [Form.run, rotA, rotCompute, h]
  rfl

/-- The row of a CB rotate or shift, from its value and the bit out: Z of the value (42_rotate_shift_bit.md R500). -/
theorem rowSays_rot (op : RotOp) (o : Operand8) {res : State → Byte} {out : State → Bool}
    (h : ∀ s, rotValue op (readOperand o s) s.cpu.f.c = (res s, out s)) :
    RowSays (rotInstr op o) [0xCB#8, 8#8 * rotCode op + r8Code o] (costOf o 8 16) fun s =>
      setFlags { z := decide (res s = 0#8), n := false, h := false, c := out s } (writeOperand o (res s) s) := by
  refine (Form.rot op o).rowSays rfl (fun _ => rfl) fun s => ?_
  rw [Form.run, rotOperand, rotCompute, h]

/-- Settles O37: each row by the value and the bit out of its rotate. -/
theorem accumulatorRotateRows : Obligations.AccumulatorRotateRows :=
  ⟨rowSays_rotA .rlc fun _ => rotValue_rlc _ _, rowSays_rotA .rrc fun _ => rotValue_rrc _ _,
    rowSays_rotA .rl fun _ => rotValue_rl _ _, rowSays_rotA .rr fun _ => rotValue_rr _ _⟩

/-- Settles O38: each row by the value and the bit out of its rotate or shift. -/
theorem leftRotateShiftRows : Obligations.LeftRotateShiftRows := fun o =>
  ⟨rowSays_rot .rlc o fun _ => rotValue_rlc _ _, rowSays_rot .rl o fun _ => rotValue_rl _ _,
    rowSays_rot .sla o fun _ => rotValue_sla _ _⟩

/-- Settles O39: each row by the value and the bit out of its rotate or shift. SRL adds no bit. -/
theorem rightRotateShiftRows : Obligations.RightRotateShiftRows := fun o =>
  ⟨rowSays_rot .rrc o fun _ => rotValue_rrc _ _, rowSays_rot .rr o fun _ => rotValue_rr _ _,
    rowSays_rot .sra o fun _ => rotValue_sra _ _, rowSays_rot .srl o fun _ => rotValue_srl _ _⟩

/-- A byte with its nibbles exchanged is 0 just when the byte is. -/
theorem swapped_eq_zero_iff (v : Byte) :
    BitVec.ofNat 8 (v.toNat % 16 * 16 + v.toNat / 16) = 0#8 ↔ v.toNat = 0 := by
  have hlt : v.toNat % 16 * 16 + v.toNat / 16 < 2 ^ 8 := by omega
  rw [← BitVec.toNat_inj, BitVec.toNat_ofNat, Nat.mod_eq_of_lt hlt]
  change _ = 0 ↔ _
  omega

/-- Settles O40: the row by SWAP's value, with Z read off the operand. -/
theorem swapRows : Obligations.SwapRows := by
  intro o
  simp only [← swapped_eq_zero_iff]
  exact rowSays_rot .swap o fun _ => rotValue_swap _ _

/-! ### BIT, RES and SET -/

theorem one_shiftLeft_eq_ofNat (b : Nat) : 1#8 <<< b = BitVec.ofNat 8 (2 ^ b) := by
  apply BitVec.eq_of_toNat_eq
  rw [BitVec.toNat_shiftLeft, BitVec.toNat_ofNat, Nat.shiftLeft_eq]
  exact congrArg (· % 256) (Nat.one_mul _)

/-- BIT's Z, by division: bit `b` is clear (42_rotate_shift_bit.md R521). -/
theorem not_getLsbD (v : Byte) (b : Nat) : (!v.getLsbD b) = decide (v.toNat / 2 ^ b % 2 = 0) := by
  rw [BitVec.getLsbD, Nat.testBit_eq_decide_div_mod_eq, ← decide_not, decide_eq_decide]
  omega

/-- Settles O41: BIT replaces the flags alone; RES and SET write the masked operand back. -/
theorem bitRows : Obligations.BitRows := by
  intro b o
  have hbytes (base : Byte) :
      [0xCB#8, base + 8#8 * BitVec.ofNat 8 b.val + r8Code o] =
        [0xCB#8, base + (8#8 * BitVec.ofNat 8 b.val + r8Code o)] := by
    rw [BitVec.add_assoc]
  refine ⟨?bit, ?res, ?set⟩
  case bit =>
    refine (Form.bit b o).rowSays (hbytes _) (fun _ => rfl) fun s => ?_
    rw [Form.run, bitOperand, bitFlags, not_getLsbD]
  case res =>
    refine (Form.res b o).rowSays (hbytes _) (fun _ => rfl) fun s => ?_
    rw [Form.run, resOperand, clearBit, one_shiftLeft_eq_ofNat]
  case set =>
    refine (Form.set b o).rowSays (hbytes _) (fun _ => rfl) fun s => ?_
    rw [Form.run, setOperand, setBitAt, one_shiftLeft_eq_ofNat]

end Sys2Proof.Machine
end

section
/-! PROOFS. The rows of control transfer and the stack: jumps (O42), calls (O43), returns (O44), PUSH and POP (O45), and
that POP undoes PUSH and RET undoes CALL (O46). -/

namespace Sys2Proof.Machine

/-! ### Conditional rows -/

/-- The condition as the statements read it: one flag, clear or set (30_encoding.md R305). -/
def CondMet (cc : Cond) (s : State) : Prop :=
  match cc with
  | .nz => s.cpu.f.z = false
  | .z => s.cpu.f.z = true
  | .nc => s.cpu.f.c = false
  | .c => s.cpu.f.c = true

theorem condMet_iff (cc : Cond) (s : State) : CondMet cc s ↔ condHolds cc s.cpu.f = true := by
  cases cc with
  | nz | nc => exact iff_of_eq (Bool.not_eq_true' _).symm
  | z | c => exact Iff.rfl

/-- A conditional row whose condition holds: the taken cost, and the effect. -/
theorem Form.taken (f : Form) (s : State) {cc : Cond} {taken untaken : Nat} {effect : State → State}
    (hcost : f.cost s = condCycles cc taken untaken s) (hrun : f.run s = whenCond cc effect s) (h : CondMet cc s) :
    cycles f.instr s = taken ∧ exec f.instr s = .next (effect s) := by
  rw [condMet_iff] at h
  rw [cycles_form, exec_form, hcost, hrun, condCycles, whenCond, if_pos h, if_pos h]
  exact ⟨rfl, rfl⟩

/-- A conditional row whose condition does not hold: the untaken cost, and the state as it was. -/
theorem Form.untaken (f : Form) (s : State) {cc : Cond} {taken untaken : Nat} {effect : State → State}
    (hcost : f.cost s = condCycles cc taken untaken s) (hrun : f.run s = whenCond cc effect s) (h : ¬ CondMet cc s) :
    cycles f.instr s = untaken ∧ exec f.instr s = .next s := by
  rw [condMet_iff] at h
  rw [cycles_form, exec_form, hcost, hrun, condCycles, whenCond, if_neg h, if_neg h]
  exact ⟨rfl, rfl⟩

/-! ### Jumps -/

/-- JR goes to PC plus the displacement as a signed number (43_control.md R553). -/
theorem jumpRelative_eq (e : Byte) (s : State) :
    jumpRelative e s = setPc (BitVec.ofInt 16 (s.cpu.pc.toNat + e.toInt)) s := by
  rw [jumpRelative, add_sext16]

/-- Settles O42: a jump writes PC alone; a conditional one is taken or not. -/
theorem jumpRows : Obligations.JumpRows := by
  refine ⟨fun n => (Form.jp n).rowSays rfl (fun _ => rfl) fun _ => rfl,
    Form.jpHl.rowSays rfl (fun _ => rfl) fun _ => rfl,
    fun e => (Form.jr e).rowSays rfl (fun _ => rfl) (jumpRelative_eq e),
    fun cc n e s => ⟨encode_form (.jpCond cc n), encode_form (.jrCond cc e), fun h => ?taken, fun h => ?untaken⟩⟩
  case taken =>
    have hjr := (Form.jrCond cc e).taken s rfl rfl h
    rw [jumpRelative_eq] at hjr
    exact and_assoc.mp ⟨(Form.jpCond cc n).taken s rfl rfl h, hjr⟩
  case untaken => exact and_assoc.mp ⟨(Form.jpCond cc n).untaken s rfl rfl h, (Form.jrCond cc e).untaken s rfl rfl h⟩

/-! ### Calls -/

/-- A call stores the return address's two bytes below the stack; of the processor it writes SP and PC
(43_control.md R555). -/
theorem callTo_bytes (t : Word) (s : State) :
    callTo t s = write8 (s.cpu.sp - 1#16) (hiByte s.cpu.pc) (write8 (s.cpu.sp - 2#16) (loByte s.cpu.pc)
      { s with cpu := { s.cpu with sp := s.cpu.sp - 2#16, pc := t } }) := by
  rw [callTo, setPc, push16_cpu, push16_bytes, ← write8_cpu_with, ← write8_cpu_with]

/-- Settles O43: CALL and RST are `callTo` their target; a conditional call is taken or not. -/
theorem callRows : Obligations.CallRows := by
  refine ⟨fun n => (Form.call n).rowSays rfl (fun _ => rfl) (callTo_bytes n),
    fun y => (Form.rst y).rowSays rfl (fun _ => rfl) fun s => ?rst,
    fun cc n s => ⟨encode_form (.callCond cc n), fun h => ?taken, (Form.callCond cc n).untaken s rfl rfl⟩⟩
  case rst => rw [Form.run, callTo_bytes, Nat.mul_comm]
  case taken =>
    have hcall := (Form.callCond cc n).taken s rfl rfl h
    rwa [callTo_bytes] at hcall

/-! ### Returns -/

/-- Settles O44: the model pops PC and moves SP as the statement writes it; a conditional return is taken or not. -/
theorem returnRows : Obligations.ReturnRows :=
  ⟨Form.ret.rowSays rfl (fun _ => rfl) fun _ => rfl, Form.reti.rowSays rfl (fun _ => rfl) fun _ => rfl,
    fun cc s => ⟨encode_form (.retCond cc), (Form.retCond cc).taken s rfl rfl, (Form.retCond cc).untaken s rfl rfl⟩⟩

/-! ### PUSH and POP -/

/-- Settles O45: a push is its two byte stores, and a popped word's halves are the two bytes read. -/
theorem pushPopRows : Obligations.PushPopRows := by
  refine fun p => ⟨(Form.push p).rowSays rfl (fun _ => rfl) fun s => push16_bytes _ s,
    (Form.pop p).rowSays rfl (fun _ => rfl) fun s => ?_⟩
  rw [Form.run, popPair, popValue, read16]
  cases p with
  | bc | de | hl => rw [setStackPair, setPair, hiByte_mkWord, loByte_mkWord]; rfl
  | af => rw [setStackPair, hiByte_mkWord, loByte_mkWord]; rfl

/-! ### The stack round trip -/

/-- What was pushed is what is popped, where both bytes are plain storage (20_memory.md R204). -/
theorem popValue_push16 {s : State} (hlo : isPlainStore (s.cpu.sp - 2#16) = true)
    (hhi : isPlainStore (s.cpu.sp - 1#16) = true) (v : Word) : popValue (push16 v s) = v := by
  obtain ⟨-, -, hround⟩ := wordAccess
  have hnext : s.cpu.sp - 2#16 + 1#16 = s.cpu.sp - 1#16 := by bv_omega
  rw [popValue, push16_cpu]
  exact hround _ _ v hlo (hnext ▸ hhi)

theorem popValue_setPc (t : Word) (s : State) : popValue (setPc t s) = popValue s := read16_congr rfl s.cpu.sp

/-- A pop moves SP back to where a push found it. -/
theorem popSp_push16_cpu (v : Word) (s : State) : (popSp (push16 v s)).cpu = s.cpu := by
  rw [popSp, setSp, push16_cpu, BitVec.sub_add_cancel]

/-- A pair written with what it holds already leaves the processor as it is: AF too, since packed flags unpack. -/
theorem setStackPair_getStackPair_cpu {s t : State} (h : t.cpu = s.cpu) (p : StackPair) :
    (setStackPair p (getStackPair p s) t).cpu = s.cpu := by
  cases p with
  | bc | de | hl => rw [getStackPair, getPair, setStackPair, setPair, hiByte_mkWord, loByte_mkWord, h]
  | af => rw [getStackPair, setStackPair, hiByte_mkWord, loByte_mkWord, unpackFlags_packFlags, h]

theorem popPair_pushPair_cpu {s : State} (hlo : isPlainStore (s.cpu.sp - 2#16) = true)
    (hhi : isPlainStore (s.cpu.sp - 1#16) = true) (p : StackPair) : (popPair p (pushPair p s)).cpu = s.cpu := by
  rw [popPair, pushPair, popValue_push16 hlo hhi]
  exact setStackPair_getStackPair_cpu (popSp_push16_cpu _ s) p

theorem returnPop_callTo_cpu {s : State} (hlo : isPlainStore (s.cpu.sp - 2#16) = true)
    (hhi : isPlainStore (s.cpu.sp - 1#16) = true) (n : Word) : (returnPop (callTo n s)).cpu = s.cpu := by
  have hpc : popValue (callTo n s) = s.cpu.pc := by rw [callTo, popValue_setPc, popValue_push16 hlo hhi]
  rw [returnPop, setPc, hpc, popSp, setSp, callTo_cpu, BitVec.sub_add_cancel]

/-- Settles O46: POP and RET read back the word that was pushed and move SP back up. -/
theorem stackRoundTrip : Obligations.StackRoundTrip := by
  refine fun s p hlo hhi => ⟨fun t u ht hu => ?pair, fun n t u ht hu => ?call⟩
  case pair =>
    cases (exec_form (.push p) s).symm.trans ht
    cases (exec_form (.pop p) _).symm.trans hu
    exact popPair_pushPair_cpu hlo hhi p
  case call =>
    cases (exec_form (.call n) s).symm.trans ht
    cases (exec_form .ret _).symm.trans hu
    exact returnPop_callTo_cpu hlo hhi n

end Sys2Proof.Machine
end

section
/-! PROOFS. The rows of loads and stores: A with (HL+) and (HL-) and the 16-bit loads (O49), LD between r8 operands and
of an immediate (O47), A at a pair's, an absolute or a high-page address (O48). -/

namespace Sys2Proof.Machine

/-! ### A with (HL+) and (HL-), and the 16-bit loads -/

theorem ofNat_toNat_add (w : Word) (k : Nat) : BitVec.ofNat 16 (w.toNat + k) = w + BitVec.ofNat 16 k := by
  rw [BitVec.ofNat_add, BitVec.ofNat_toNat, BitVec.setWidth_eq]

/-- A's load through HL, with HL then moved by the number `k` (44_loads.md R617, R618). -/
theorem loadAThenMove_ofNat (k : Nat) (s : State) :
    loadAThenMove (BitVec.ofNat 16 k) s =
      setPair .hl (BitVec.ofNat 16 ((getPair .hl s).toNat + k)) (withAF (read8 (getPair .hl s) s) s.cpu.f s) := by
  rw [ofNat_toNat_add]
  rfl

/-- A's store through HL, with HL then moved by the number `k` (44_loads.md R615, R616). -/
theorem storeAThenMove_ofNat (k : Nat) (s : State) :
    storeAThenMove (BitVec.ofNat 16 k) s =
      setPair .hl (BitVec.ofNat 16 ((getPair .hl s).toNat + k)) (write8 (getPair .hl s) s.cpu.a s) := by
  rw [ofNat_toNat_add]
  rfl

/-- Settles O49: the access at the old HL and then HL moved by 1 or 65535; SP's two bytes are the model's word store. -/
theorem postStepAndLoad16Rows : Obligations.PostStepAndLoad16Rows :=
  ⟨(Form.stAHl true).rowSays rfl (fun _ => rfl) (storeAThenMove_ofNat 1),
    (Form.stAHl false).rowSays rfl (fun _ => rfl) (storeAThenMove_ofNat 65535),
    (Form.ldAHl true).rowSays rfl (fun _ => rfl) (loadAThenMove_ofNat 1),
    (Form.ldAHl false).rowSays rfl (fun _ => rfl) (loadAThenMove_ofNat 65535),
    fun p n => (Form.ldPair p n).rowSays rfl (fun _ => rfl) fun _ => rfl,
    fun n => (Form.stSp n).rowSays rfl (fun _ => rfl) fun _ => rfl,
    Form.ldSpHl.rowSays rfl (fun _ => rfl) fun _ => rfl⟩

/-! ### LD between r8 operands, and of an immediate -/

/-- The opcode of LD r,(HL): the operand field 6 counted into the base (30_encoding.md R303). -/
theorem ldReg_atHl_opcode (r : Reg8) :
    0x40#8 + 8#8 * r8Code (.reg r) + r8Code .atHl = 0x46#8 + 8#8 * r8Code (.reg r) :=
  add_right_comm _ _ _

/-- Settles O47: an operand is a register or the byte at HL, and each form writes what it reads. -/
theorem load8Rows : Obligations.Load8Rows := by
  refine ⟨fun r v s => ⟨readOperand_reg r s, writeOperand_reg r v s⟩,
    fun v s => ⟨readOperand_atHl s, writeOperand_atHl v s⟩, fun dst src => ?regReg, fun r => ⟨?regHl, ?hlReg⟩,
    fun r n => ?regImm, fun n => ?hlImm⟩
  case regReg => exact (Form.ldReg dst (.reg src)).rowSays rfl (fun _ => rfl) fun _ => rfl
  case regHl =>
    exact (Form.ldReg r .atHl).rowSays (congrArg (fun b => [b]) (ldReg_atHl_opcode r)) (fun _ => rfl) fun _ => rfl
  case hlReg => exact (Form.ldHlReg r).rowSays rfl (fun _ => rfl) fun _ => rfl
  case regImm => exact (Form.ldImm (.reg r) n).rowSays rfl (fun _ => rfl) fun _ => rfl
  case hlImm => exact (Form.ldImm .atHl n).rowSays rfl (fun _ => rfl) fun _ => rfl

/-! ### A at an address -/

/-- The row that loads A from an address. -/
theorem rowSays_ldA (x : AAddr) {a : State → Word} (h : ∀ s, x.addr s = a s) :
    RowSays x.loadInstr x.loadBytes (fun _ => x.cost) fun s => withAF (read8 (a s) s) s.cpu.f s :=
  (Form.ldA x).rowSays rfl (fun _ => rfl) fun s => h s ▸ rfl

/-- The row that stores A at an address. -/
theorem rowSays_stA (x : AAddr) {a : State → Word} (h : ∀ s, x.addr s = a s) :
    RowSays x.storeInstr x.storeBytes (fun _ => x.cost) fun s => write8 (a s) s.cpu.a s :=
  (Form.stA x).rowSays rfl (fun _ => rfl) fun s => h s ▸ rfl

/-- A high-page address as the sum of numbers (44_loads.md R611 to R614). -/
theorem highPage_eq_ofNat (n : Byte) : highPage n = BitVec.ofNat 16 (0xFF00 + n.toNat) := by
  rw [BitVec.ofNat_add, BitVec.ofNat_toNat]
  rfl

/-- Settles O48: each row by its address; the high page's is the sum of numbers. -/
theorem accumulatorLoadRows : Obligations.AccumulatorLoadRows :=
  ⟨rowSays_ldA .atBc fun _ => rfl, rowSays_ldA .atDe fun _ => rfl,
    rowSays_stA .atBc fun _ => rfl, rowSays_stA .atDe fun _ => rfl,
    fun n => ⟨rowSays_ldA (.abs n) fun _ => rfl, rowSays_stA (.abs n) fun _ => rfl⟩,
    fun n => ⟨rowSays_ldA (.page n) fun _ => highPage_eq_ofNat n, rowSays_stA (.page n) fun _ => highPage_eq_ofNat n⟩,
    rowSays_ldA .pageC fun s => highPage_eq_ofNat s.cpu.c, rowSays_stA .pageC fun s => highPage_eq_ofNat s.cpu.c⟩

end Sys2Proof.Machine
end

section
/-! PROOFS. The system rows and their steps: NOP, HALT, STOP, DI and EI (O50), the prefix row (O8), a step on an undefined
opcode (O9), and EI's delay (O51). -/

namespace Sys2Proof.Machine

/-! ### NOP, HALT, STOP, DI and EI -/

/-- Settles O50: each row's effect is the model's own update of its one field. -/
theorem systemRows : Obligations.SystemRows :=
  ⟨Form.nop.rowSays rfl (fun _ => rfl) fun _ => rfl,
    Form.halt.rowSays rfl (fun _ => rfl) fun _ => rfl,
    fun n => (Form.stop n).rowSays rfl (fun _ => rfl) fun _ => rfl,
    Form.di.rowSays rfl (fun _ => rfl) fun _ => rfl,
    Form.ei.rowSays rfl (fun _ => rfl) fun _ => rfl⟩

/-! ### The prefix row -/

/-- A row of the CB table does what the prefix row does for its byte, block by block (30_encoding.md R307). -/
theorem exec_decodeCb (op2 : Byte) (s : State) : exec (decodeCb op2) s = .next (cbEffect op2 s) := by
  unfold decodeCb cbEffect
  match fieldX op2 with
  | 0 => exact exec_form (.rot _ _) s
  | 1 => exact exec_form (.bit _ _) s
  | 2 => exact exec_form (.res _ _) s
  | _ + 3 => exact exec_form (.set _ _) s

/-- A row of the CB table costs what the prefix row does for its byte: more where its operand is (HL), BIT less than the
others (30_encoding.md R310). -/
theorem cycles_decodeCb (op2 : Byte) (s : State) : cycles (decodeCb op2) s = cbCycles op2 := by
  unfold decodeCb cbCycles
  simp only [← operand8_fieldZ_eq_atHl_iff]
  match fieldX op2 with
  | 0 => exact cycles_form (.rot _ _) s
  | 1 => exact cycles_form (.bit _ _) s
  | 2 => exact cycles_form (.res _ _) s
  | _ + 3 => exact cycles_form (.set _ _) s

/-- Settles O8: the prefix row fetches the byte at PC and is then that byte's row of the CB table. -/
theorem prefixRunsTheCbTable : Obligations.PrefixRunsTheCbTable := by
  rintro s op2 rfl
  exact ⟨⟨_, exec_decodeCb _ _, exec_form .prefixCb s⟩,
    (cycles_form .prefixCb s).trans (cycles_decodeCb _ _).symm, encode_decodeCb _⟩

/-! ### A step on an undefined opcode -/

/-- A machine that is neither ended nor halted steps by the meaning of the instruction at PC and what follows it: the
converse of the last case of `step_cases`. -/
theorem step_of_exec {s u : State} (he : ¬ s.Ended) (hh : s.cpu.runState ≠ .halted)
    (hx : exec (fetchInstr (applyPendingEi s)) (pastInstr (applyPendingEi s)) = .next u) :
    step s = .next (afterCpu u (cycles (fetchInstr (applyPendingEi s)) (pastInstr (applyPendingEi s)))) := by
  unfold step systemStep cpuStep
  rw [if_neg (by exact he)]
  dsimp only
  rw [if_neg (by simpa using hh), hx]

/-- A recorded fault ends the step: no device ticks (60_exceptions.md R701). -/
theorem afterCpu_of_fault {s : State} (h : s.cpu.fault ≠ none) (c : Nat) : afterCpu s c = s := if_pos h

/-- A pending EI sets IME, and the latch is clear afterwards in any case. -/
theorem applyPendingEi_eq (s : State) : applyPendingEi s =
    { s with cpu := { s.cpu with ime := s.cpu.ime || s.cpu.eiPending, eiPending := false } } := by
  unfold applyPendingEi
  split
  case isTrue h => rw [h, Bool.or_true]
  case isFalse h => rw [Bool.eq_false_of_not_eq_true h, Bool.or_false, ← Bool.eq_false_of_not_eq_true h]

/-- An undefined opcode is one byte long, so PC is one past it (30_encoding.md R311). -/
theorem pastInstr_of_undefined {s : State} (h : read8 s.cpu.pc s ∈ undefinedOpcodes) :
    pastInstr s = setPc (s.cpu.pc + 1#16) s := by
  obtain ⟨-, -, -, -, hlen, -⟩ := firstByteFixesLength (read8 s.cpu.pc s) 0#8 0#8
  rw [pastInstr, fetchLength, hlen h]

/-- Settles O9: the row records the fault with PC one past it, and a recorded fault ends the step. -/
theorem undefinedOpcodeStep : Obligations.UndefinedOpcodeStep := by
  rintro s op he hh rfl hop
  have hu : (fetchInstr (applyPendingEi s)).undefinedOpcode? = some (read8 s.cpu.pc s) := by
    rw [fetchInstr, decode3_undefinedOpcode?, applyPendingEi_cpu_pc, read8_applyPendingEi, if_pos hop]
  rw [step_of_exec he hh (exec_undefinedOpcode hu _), afterCpu_of_fault (Option.some_ne_none _),
    pastInstr_of_undefined (by simpa using hop), applyPendingEi_eq]
  rfl

/-! ### EI's delay -/

/-- With IME clear and the core awake the interrupt check does nothing, whatever is pending (60_exceptions.md R709). -/
theorem handleInterrupt_of_not_ime {s : State} (hi : s.cpu.ime = false) (hh : s.cpu.runState ≠ .halted) :
    handleInterrupt s = (s, 0) := by
  rcases handleInterrupt_cases s with h | h | ⟨k, hime, -⟩
  · exact h
  · rw [h, wake, if_neg hh]
  · exact absurd (hi.symm.trans hime) Bool.false_ne_true

/-- So what follows an instruction leaves the processor as the instruction left it. -/
theorem afterCpu_cpu_of_not_ime {s : State} (hi : s.cpu.ime = false) (hh : s.cpu.runState ≠ .halted) (c : Nat) :
    (afterCpu s c).cpu = s.cpu := by
  have hcheck : handleInterrupt (tickDevices c s) = (tickDevices c s, 0) :=
    handleInterrupt_of_not_ime (by simpa using hi) (by simpa using hh)
  unfold afterCpu
  split
  · rfl
  · simp [hcheck]

/-- The byte 0xFB at PC is EI. -/
theorem fetchInstr_ei {s : State} (h : read8 s.cpu.pc s = 0xFB#8) : fetchInstr s = .ei := by
  rw [fetchInstr, h]
  rfl

/-- EI is one byte long. -/
theorem pastInstr_ei {s : State} (h : read8 s.cpu.pc s = 0xFB#8) : pastInstr s = setPc (s.cpu.pc + 1#16) s := by
  rw [pastInstr, fetchLength, h]
  rfl

/-- EI sets the latch. -/
theorem exec_ei (s : State) : exec .ei s = .next (setEiPending s) := exec_form .ei s

theorem applyPendingEi_of_not_pending {s : State} (h : s.cpu.eiPending = false) : applyPendingEi s = s :=
  if_neg (Bool.eq_false_iff.mp h)

/-- A step begins by applying a pending EI, so it does not matter whether that has been done before it. -/
theorem step_applyPendingEi {s : State} (he : ¬ s.Ended) : step (applyPendingEi s) = step s := by
  have hcpu : cpuStep (applyPendingEi s) = cpuStep s := by
    rw [cpuStep, applyPendingEi_of_not_pending (applyPendingEi_cpu_eiPending s)]
    rfl
  have he' : ¬ (applyPendingEi s).Ended := by simpa [State.Ended] using he
  unfold step systemStep
  rw [if_neg (by exact he'), if_neg (by exact he), hcpu]

/-- Settles O51: EI's own step sets the latch and the check sees IME clear; a step with the latch set begins by moving it
into IME. -/
theorem eiActsOneStepLater : Obligations.EiActsOneStepLater := by
  refine ⟨fun s t he hr hi hp hfb ht => ?own, fun s he hp => ?next⟩
  case own =>
    have hh : s.cpu.runState ≠ .halted := by simp [hr]
    rcases step_cases ht with ⟨he', -⟩ | ⟨-, hh', -⟩ | ⟨-, -, u, hu, rfl⟩
    · exact absurd he' he
    · exact absurd hh' hh
    · rw [applyPendingEi_of_not_pending hp, fetchInstr_ei hfb, pastInstr_ei hfb, exec_ei, Host.Outcome.next.injEq] at hu
      subst hu
      exact afterCpu_cpu_of_not_ime (s := setEiPending (setPc (s.cpu.pc + 1#16) s)) hi hh _
  case next =>
    calc step s = step (applyPendingEi s) := (step_applyPendingEi he).symm
      _ = step { s with cpu := { s.cpu with ime := true, eiPending := false } } := congrArg step (if_pos hp)

end Sys2Proof.Machine
end

section
/-! PROOFS. What a step does: it answers a next state from every state (O26); an ended and a halted machine's step (O7);
the step that runs the instruction the bytes at PC decode to (O6). -/

namespace Sys2Proof.Machine

/-! ### Every step answers -/

/-- Every instruction answers a next state: it has a form, and a form only updates the state. -/
theorem exec_completes (i : Instr) (s : State) : ∃ t, exec i s = .next t := by
  obtain ⟨f, rfl⟩ := Form.cover i
  exact ⟨f.run s, exec_form f s⟩

/-- An ended machine stays as it is (60_exceptions.md R701, R762). -/
theorem step_of_ended {s : State} (h : s.Ended) : step s = .next s := if_pos h

/-- A halted machine idles for 4 cycles (45_system.md R651, 70_reset_and_hazards.md R820). -/
theorem step_of_halted {s : State} (he : ¬ s.Ended) (hh : s.cpu.runState = .halted) :
    step s = .next (afterCpu (applyPendingEi s) 4) := by
  unfold step systemStep cpuStep
  rw [if_neg (by exact he)]
  dsimp only
  rw [if_pos (by simpa using hh)]

/-- Every step answers a next state: each of the three kinds of step does. -/
theorem step_completes (s : State) : ∃ t, step s = .next t := by
  by_cases he : s.Ended
  · exact ⟨s, step_of_ended he⟩
  by_cases hh : s.cpu.runState = .halted
  · exact ⟨_, step_of_halted he hh⟩
  · obtain ⟨u, hu⟩ := exec_completes (fetchInstr (applyPendingEi s)) (pastInstr (applyPendingEi s))
    exact ⟨_, step_of_exec he hh hu⟩

/-- Settles O26: forms only update the state, and each kind of step ends in a next state. -/
theorem everyInstructionAndStepCompletes : Obligations.EveryInstructionAndStepCompletes :=
  ⟨exec_completes, step_completes⟩

/-! ### Halted and ended machines -/

/-- Without a fault recorded, what follows an instruction is the tick, and then the check unless the machine stopped. -/
theorem afterCpu_of_no_fault {s : State} (h : s.cpu.fault = none) (c : Nat) :
    afterCpu s c =
      if (tickDevices c s).cpu.runState = .stopped then tickDevices c s
      else
        let r := handleInterrupt (tickDevices c s)
        if r.2 > 0 then tickDevices r.2 r.1 else r.1 := if_neg fun hf => hf h

/-- Settles O7: a halted machine has neither faulted nor stopped, so its tick and the check follow. -/
theorem haltedAndEndedSteps : Obligations.HaltedAndEndedSteps := by
  refine ⟨fun s h => step_of_ended h, fun s hf hh => ?_⟩
  have he : ¬ s.Ended := by simp [State.Ended, hf, hh]
  rw [step_of_halted he hh, afterCpu_of_no_fault (by simpa using hf), if_neg (by simp [hh])]
  rfl

/-! ### The instruction at PC -/

/-- Three bytes are enough for any instruction, so they decode to what a fetch reads. -/
theorem decodeBytes_three {b0 b1 b2 : Byte} {i : Instr} {rest : List Byte}
    (h : decodeBytes [b0, b1, b2] = .instr i rest) : i = decode3 b0 b1 b2 := by
  obtain ⟨-, hmax⟩ := lengthOf_bounds b0
  rw [decodeBytes_complete hmax] at h
  cases h
  rfl

/-- PC past the instruction at PC is PC past that instruction's own bytes (30_encoding.md R301, R313). -/
theorem pastInstr_eq (s : State) :
    pastInstr s = setPc (s.cpu.pc + BitVec.ofNat 16 (fetchInstr s).length) s := by
  obtain ⟨hlen, -⟩ := firstByteFixesLength (read8 s.cpu.pc s) (read8 (s.cpu.pc + 1#16) s) (read8 (s.cpu.pc + 2#16) s)
  rw [pastInstr, fetchLength, fetchInstr, hlen]

/-- Settles O6: the decoded instruction is the fetched one, and `afterCpu` is the rest of the step as stated. -/
theorem stepRunsTheDecodedInstruction : Obligations.StepRunsTheDecodedInstruction := by
  intro s t i rest s0 s1 he hh _ hdec hx
  have hi : fetchInstr s0 = i := (decodeBytes_three hdec).symm
  have hpast : pastInstr s0 = s1 := by rw [pastInstr_eq, hi]
  rw [← hi, ← hpast] at hx
  rw [step_of_exec he hh hx, hi, hpast]
  rfl

end Sys2Proof.Machine
end

section
/-! PROOFS. Interrupts: the check (O52), the dispatch (O53), and that RETI undoes it (O54). -/

namespace Sys2Proof.Machine

/-! ### The check -/

/-- The pending set as numbers: IF has five bits, so IE's upper three never count (60_exceptions.md R707, D6). -/
theorem pendingSet_toNat (s : State) : (pendingSet s).toNat = s.ifReg.toNat &&& s.ie.toNat := by
  have hlt : s.ifReg.toNat &&& s.ie.toNat < 2 ^ 5 := Nat.lt_of_le_of_lt Nat.and_le_left s.ifReg.isLt
  rw [pendingSet, BitVec.toNat_and, BitVec.toNat_setWidth, ← Nat.mod_eq_of_lt hlt, Nat.and_mod_two_pow,
    Nat.mod_eq_of_lt s.ifReg.isLt]

theorem pendingSet_eq_zero_iff (s : State) : pendingSet s = 0#5 ↔ s.ifReg.toNat &&& s.ie.toNat = 0 := by
  rw [← BitVec.toNat_inj, pendingSet_toNat]
  rfl

theorem pendingSet_getLsbD (s : State) (i : Nat) :
    (pendingSet s).getLsbD i = (s.ifReg.toNat &&& s.ie.toNat).testBit i := by
  rw [BitVec.getLsbD, pendingSet_toNat]

/-- The source serviced, as one chain of tests in order of priority (60_exceptions.md R708, D7). -/
theorem chosenIrq_elim {α : Type} (p : BitVec 5) (x : α) (f : IrqSource → α) :
    (chosenIrq p).elim x f =
      if p.getLsbD 0 then f .vblank else if p.getLsbD 2 then f .timer else if p.getLsbD 3 then f .serial
      else if p.getLsbD 4 then f .joypad else x := by
  rw [chosenIrq]
  simp only [apply_ite (fun o : Option IrqSource => o.elim x f), Option.elim_some, Option.elim_none]

/-- The wake-up changes the run state alone (60_exceptions.md R711). -/
theorem wake_eq (s : State) :
    wake s = { s with cpu := { s.cpu with
      runState := if s.cpu.runState = .halted then .running else s.cpu.runState } } := by
  unfold wake
  split <;> rfl

theorem handleInterrupt_none {s : State} (h : pendingSet s = 0#5) : handleInterrupt s = (s, 0) := if_pos h

/-- With IME clear a pending request only wakes the core. -/
theorem handleInterrupt_masked {s : State} (h : pendingSet s ≠ 0#5) (hi : s.cpu.ime = false) :
    handleInterrupt s = (wake s, 0) := by
  rw [handleInterrupt, if_neg h]
  exact if_pos ((wake_cpu_ime s).trans hi)

/-- With IME set the chosen source is taken, if there is one. -/
theorem handleInterrupt_enabled {s : State} (h : pendingSet s ≠ 0#5) (hi : s.cpu.ime = true) :
    handleInterrupt s =
      (chosenIrq (pendingSet s)).elim (wake s, 0) fun k => (takeInterrupt k (wake s), 20) := by
  rw [handleInterrupt, if_neg h]
  dsimp only
  rw [if_neg (by simp [hi])]
  cases chosenIrq (pendingSet s) <;> rfl

/-- Settles O52: nothing pending, pending with IME clear, and pending with IME set, where the chosen source is the first
of the four bits. -/
theorem interruptCheck : Obligations.InterruptCheck := by
  intro s pending woken
  have hp : pendingSet s = 0#5 ↔ pending = 0 := pendingSet_eq_zero_iff s
  have hw : woken = wake s := (wake_eq s).symm
  rw [hw]
  refine ⟨fun h => handleInterrupt_none (hp.mpr h), fun h hi => handleInterrupt_masked (mt hp.mp h) hi, fun h hi => ?_⟩
  rw [handleInterrupt_enabled (mt hp.mp h) hi, chosenIrq_elim]
  simp only [pendingSet_getLsbD]
  rfl

/-! ### The dispatch and its return -/

/-- The state in which the source's request is acknowledged: IME and its IF bit are clear (60_exceptions.md R709). -/
def acknowledgeIrq (k : IrqSource) (s : State) : State :=
  { setIme false s with ifReg := s.ifReg &&& ~~~(1#5 <<< k.bit) }

/-- A dispatch acknowledges the request and then calls the vector. -/
theorem takeInterrupt_eq_callTo (k : IrqSource) (s : State) :
    takeInterrupt k s = callTo k.vector (acknowledgeIrq k s) := rfl

/-- Settles O53: the call's two byte stores, with each source's bit and vector. -/
theorem takingAnInterrupt : Obligations.TakingAnInterrupt := by
  intro s k
  rw [takeInterrupt_eq_callTo, callTo_bytes]
  cases k <;> rfl

/-- RETI is RET with IME set (43_control.md R560). -/
theorem exec_reti (s : State) : exec .reti s = .next (setIme true (returnPop s)) := exec_form .reti s

/-- Settles O54: the return undoes the call, and RETI sets the IME that the dispatch cleared. -/
theorem retiUndoesTheDispatch : Obligations.RetiUndoesTheDispatch := by
  intro s k hlo hhi
  have hcpu : (returnPop (takeInterrupt k s)).cpu = { s.cpu with ime := false } :=
    returnPop_callTo_cpu (s := acknowledgeIrq k s) hlo hhi k.vector
  refine ⟨_, exec_reti _, ?_⟩
  calc (setIme true (returnPop (takeInterrupt k s))).cpu
      = { (returnPop (takeInterrupt k s)).cpu with ime := true } := rfl
    _ = { s.cpu with ime := true } := by rw [hcpu]

end Sys2Proof.Machine
end

section
/-! PROOFS. The timer: one equation for a tick with TIMA off and one with it on, the rule of a tick (O55), and that
ticks add up. -/

namespace Sys2Proof.Machine

/-! ### A tick as one update -/

/-- The state with DIV and the two accumulators replaced, which is all that a tick writes beside TIMA and IF. -/
def State.withTimerProgress (s : State) (div : Byte) (divAcc timaAcc : Nat) : State :=
  { s with timer := { s.timer with div := div, divAcc := divAcc, timaAcc := timaAcc } }

/-- TIMA's increments look at none of the three. -/
theorem timaIncrements_withTimerProgress (n : Nat) (s : State) (d : Byte) (x y : Nat) :
    timaIncrements n (s.withTimerProgress d x y) = (timaIncrements n s).withTimerProgress d x y := by
  induction n generalizing s with
  | zero => rfl
  | succ n ih =>
    have hone : timaIncrement (s.withTimerProgress d x y) = (timaIncrement s).withTimerProgress d x y := by
      by_cases h : s.timer.tima = 0xFF#8
      · rw [timaIncrement, timaIncrement, if_pos h, if_pos (by exact h)]; rfl
      · rw [timaIncrement, timaIncrement, if_neg h, if_neg (by exact h)]; rfl
    rw [timaIncrements, timaIncrements, hone, ih]

theorem timerTick_off (c : Nat) {s : State} (h : s.timer.tac.getLsbD 2 = false) :
    timerTick c s = s.withTimerProgress (s.timer.div + BitVec.ofNat 8 ((s.timer.divAcc + c) / 256))
      ((s.timer.divAcc + c) % 256) s.timer.timaAcc := timaTick_off c (divTick c s) h

theorem timerTick_on (c : Nat) {s : State} (h : s.timer.tac.getLsbD 2 = true) :
    timerTick c s = (timaIncrements ((s.timer.timaAcc + c) / timaPeriod s.timer.tac) s).withTimerProgress
      (s.timer.div + BitVec.ofNat 8 ((s.timer.divAcc + c) / 256)) ((s.timer.divAcc + c) % 256)
      ((s.timer.timaAcc + c) % timaPeriod s.timer.tac) := by
  rw [← timaIncrements_withTimerProgress]
  exact timaTick_on c (divTick c s) h

/-! ### The rule of a tick -/

/-- The periods that TAC's low two bits select (60_exceptions.md R721). -/
theorem timaPeriod_eq (tac : Byte) :
    timaPeriod tac = match tac.toNat % 4 with | 0 => 1024 | 1 => 16 | 2 => 64 | _ => 256 := by
  rw [timaPeriod, BitVec.extractLsb'_toNat]
  rfl

/-- A tick writes the timer and IF alone. -/
theorem timerTick_frame (c : Nat) (s : State) : { timerTick c s with timer := s.timer, ifReg := s.ifReg } = s := by
  simp

/-- One increment reloads TIMA and raises the request past 0xFF, and adds 1 below (60_exceptions.md R721). -/
theorem timaIncrement_rule (s : State) :
    if s.timer.tima = 0xFF#8 then
      (timaIncrement s).timer.tima = s.timer.tma ∧ (timaIncrement s).ifReg = s.ifReg ||| 0b00100#5
    else (timaIncrement s).timer.tima.toNat = s.timer.tima.toNat + 1 ∧ (timaIncrement s).ifReg = s.ifReg := by
  unfold timaIncrement
  split
  case isTrue h => exact ⟨rfl, rfl⟩
  case isFalse h => exact ⟨show (s.timer.tima + 1#8).toNat = _ by bv_omega, rfl⟩

/-- Settles O55: DIV by the quotient; TIMA is incremented 0 times short of the period and once at it. -/
theorem timerTickRule : Obligations.TimerTickRule := by
  intro s c t period acc
  have hperiod : timaPeriod s.timer.tac = period := timaPeriod_eq s.timer.tac
  have hpos : 0 < period := hperiod ▸ timaPeriod_pos s.timer.tac
  refine ⟨?div, timerTick_timer_divAcc c s, timerTick_timer_tma c s, timerTick_timer_tac c s, timerTick_frame c s,
    fun hoff => ?off, fun hon => ?rest, fun hon hlt => ?short, fun hon heq => ?one⟩
  case div =>
    rw [timerTick_timer_div, BitVec.toNat_add, BitVec.toNat_ofNat]
    exact Nat.add_mod_mod _ _ _
  case off =>
    rw [show t = _ from timerTick_off c hoff]
    exact ⟨rfl, rfl, rfl⟩
  case rest =>
    rw [show t = _ from timerTick_on c hon, hperiod]
    rfl
  case short =>
    rw [show t = _ from timerTick_on c hon, hperiod, Nat.div_eq_of_lt hlt]
    exact ⟨rfl, rfl⟩
  case one =>
    rw [show t = _ from timerTick_on c hon, hperiod, show s.timer.timaAcc + c = period from heq, Nat.div_self hpos]
    exact timaIncrement_rule s

/-! ### Ticks add up -/

/-- Whole periods taken off in two goes are those taken off in one. -/
theorem add_div_add_mod (x a b : Nat) {p : Nat} (hp : 0 < p) :
    (x + a) / p + ((x + a) % p + b) / p = (x + (a + b)) / p ∧ ((x + a) % p + b) % p = (x + (a + b)) % p := by
  refine ⟨?_, by rw [Nat.mod_add_mod, Nat.add_assoc]⟩
  rw [← Nat.mul_add_div hp, ← Nat.add_assoc, Nat.div_add_mod, Nat.add_assoc]

/-- DIV's part of two ticks. -/
theorem div_add_add (d : Byte) (m n : Nat) :
    d + BitVec.ofNat 8 m + BitVec.ofNat 8 n = d + BitVec.ofNat 8 (m + n) := by
  rw [BitVec.add_assoc, BitVec.ofNat_add]

/-- Ticking in two goes is ticking in one, for the timer. -/
theorem timerTick_add (a b : Nat) (s : State) : timerTick b (timerTick a s) = timerTick (a + b) s := by
  obtain ⟨hdiv, hrem⟩ := add_div_add_mod s.timer.divAcc a b (Nat.zero_lt_succ 255)
  have htac := timerTick_timer_tac a s
  cases h : s.timer.tac.getLsbD 2 with
  | false =>
    rw [timerTick_off b (htac ▸ h), timerTick_off (a + b) h, timerTick_timer_div, timerTick_timer_divAcc, div_add_add,
      hdiv, hrem, timerTick_off a h]
    rfl
  | true =>
    obtain ⟨htima, hkept⟩ := add_div_add_mod s.timer.timaAcc a b (timaPeriod_pos s.timer.tac)
    have hacc : (timerTick a s).timer.timaAcc = (s.timer.timaAcc + a) % timaPeriod s.timer.tac := by
      rw [timerTick_on a h]; rfl
    rw [timerTick_on b (htac ▸ h), timerTick_on (a + b) h, timerTick_timer_div, timerTick_timer_divAcc, div_add_add,
      hdiv, hrem, htac, hacc, hkept, timerTick_on a h, timaIncrements_withTimerProgress, ← timaIncrements_add, htima]
    rfl

end Sys2Proof.Machine
end

section
/-! PROOFS. The PPU: that its ticks add up, and with the timer's that both devices' do (O56), its mode machine (O57),
the frame (O58) and a rendered row (O59). -/

namespace Sys2Proof.Machine

/-! ### Ticks add up -/

/-- Setting the accumulator and stepping is a step of no cycles from their sum. -/
theorem ppuStep_setPpuAcc (c x : Nat) (s : State) : ppuStep c (setPpuAcc x s) = ppuStep 0 (setPpuAcc (x + c) s) := rfl

/-- Ticking in two goes is ticking in one, for the PPU: by the rounds of the first. -/
theorem ppuStep_add (a b : Nat) (s : State) : ppuStep b (ppuStep a s) = ppuStep (a + b) s := by
  generalize hk : s.ppu.acc + a = k
  induction k using Nat.strongRecOn generalizing a s with
  | ind k ih =>
    have hpos := budget_pos s.ppu.mode
    by_cases hshort : s.ppu.acc + a < s.ppu.mode.budget
    · rw [ppuStep_short a s hshort, ppuStep_setPpuAcc, Nat.add_assoc]
      rfl
    · have hrest : s.ppu.acc + (a + b) - s.ppu.mode.budget = s.ppu.acc + a - s.ppu.mode.budget + b := by omega
      rw [ppuStep_reach a s (by omega), ppuStep_reach (a + b) s (by omega), hrest,
        ih (s.ppu.acc + a - s.ppu.mode.budget) (by omega) 0 _ (by simp), Nat.zero_add, ppuTransition_setPpuAcc,
        ppuTransition_setPpuAcc, ppuStep_setPpuAcc]

/-- Settles O56: the timer's ticks and the PPU's. -/
theorem deviceTicksAdd : Obligations.DeviceTicksAdd := fun s a b => ⟨timerTick_add a b s, ppuStep_add a b s⟩

/-! ### The mode machine -/

/-- Cycles that complete the budget make one transition, with nothing left over. -/
theorem ppuStep_complete {c : Nat} {s : State} (h : s.ppu.acc + c = s.ppu.mode.budget) :
    ppuStep c s = ppuTransition (setPpuAcc 0 s) := by
  rw [ppuStep_reach c s (Nat.le_of_eq h.symm), h, Nat.sub_self]
  refine ppuLoop_done _ _ (Nat.lt_of_lt_of_le ?_ (budget_pos _))
  simp

/-- The end of HBLANK before a visible line (60_exceptions.md R733). -/
theorem ppuTransition_hblank_visible {s : State} (hm : s.ppu.mode = .hblank) (h : (s.ppu.ly + 1#8).toNat < 144) :
    ppuTransition s = setMode .oamScan (setLy (s.ppu.ly + 1#8) s) := by
  rw [ppuTransition, hm]
  exact if_pos h

/-- The end of the last visible line's HBLANK: VBLANK begins, with the request where the gate is open
(60_exceptions.md R733, D10). -/
theorem ppuTransition_hblank_last {s : State} (hm : s.ppu.mode = .hblank) (h : ¬ (s.ppu.ly + 1#8).toNat < 144) :
    ppuTransition s = { setMode .vblank (setLy (s.ppu.ly + 1#8) s) with
      ifReg := if gateOpen s then s.ifReg ||| 1#5 else s.ifReg } := by
  rw [ppuTransition, hm]
  refine (if_neg h).trans ?_
  change (if gateOpen s then _ else _) = _
  split <;> rfl

/-- Settles O57: a round short of the budget, and a round at it in each mode. -/
theorem ppuTransitions : Obligations.PpuTransitions := by
  intro s c budget at0 ly1 open'
  have hbudget : s.ppu.mode.budget = budget := rfl
  have hgate : open' = gateOpen (setPpuAcc 0 s) := rfl
  rw [← hbudget]
  refine ⟨ppuStep_short c s, fun h => ?_⟩
  rw [ppuStep_complete h, hgate]
  cases hm : s.ppu.mode with
  | oamScan => exact ppuTransition_oamScan (s := setPpuAcc 0 s) hm
  | pixelTransfer => exact ppuTransition_pixelTransfer (s := setPpuAcc 0 s) hm
  | hblank =>
    exact eq_ite (ppuTransition_hblank_visible (s := setPpuAcc 0 s) hm)
      (ppuTransition_hblank_last (s := setPpuAcc 0 s) hm)
  | vblank => exact ppuTransition_vblank (s := setPpuAcc 0 s) hm

/-! ### The frame -/

/-- The start of a line: the state with LY, the mode and the framebuffer given, and nothing accumulated. -/
def State.atLine (s : State) (ly : Byte) (mode : PpuMode) (fb : Memory 2) : State :=
  { s with ppu := { s.ppu with ly := ly, mode := mode, acc := 0, fb := fb } }

theorem ppuStep_zero_atLine (s : State) (ly : Byte) (m : PpuMode) (fb : Memory 2) :
    ppuStep 0 (s.atLine ly m fb) = s.atLine ly m fb :=
  ppuLoop_done _ _ (Nat.lt_of_lt_of_le (Nat.zero_lt_succ 79) (budget_pos m))

/-- A mode's whole budget of cycles at its start is its transition. -/
theorem ppuStep_budget_atLine (s : State) (ly : Byte) (m : PpuMode) (fb : Memory 2) :
    ppuStep m.budget (s.atLine ly m fb) = ppuTransition (s.atLine ly m fb) :=
  ppuStep_complete (Nat.zero_add _)

/-- The first two modes of a visible line draw it and leave HBLANK to come. -/
theorem ppuStep_drawLine (s : State) (ly : Byte) (fb : Memory 2) :
    ∃ fb', ppuStep 252 (s.atLine ly .oamScan fb) = s.atLine ly .hblank fb' := by
  have hscan : ppuStep 80 (s.atLine ly .oamScan fb) = s.atLine ly .pixelTransfer fb :=
    (ppuStep_budget_atLine s ly .oamScan fb).trans (ppuTransition_oamScan rfl)
  have hdraw : ppuStep 172 (s.atLine ly .pixelTransfer fb) = setMode .hblank (renderScanline ly.toNat _) :=
    (ppuStep_budget_atLine s ly .pixelTransfer fb).trans (ppuTransition_pixelTransfer rfl)
  rw [← ppuStep_add 80 172, hscan, hdraw]
  exact ⟨_, rfl⟩

/-- A visible line of 456 cycles that another visible one follows. -/
theorem ppuStep_visibleLine (s : State) {ly : Byte} (h : (ly + 1#8).toNat < 144) (fb : Memory 2) :
    ∃ fb', ppuStep 456 (s.atLine ly .oamScan fb) = s.atLine (ly + 1#8) .oamScan fb' := by
  obtain ⟨fb', hdraw⟩ := ppuStep_drawLine s ly fb
  have hblank : ppuStep 204 (s.atLine ly .hblank fb') = s.atLine (ly + 1#8) .oamScan fb' :=
    (ppuStep_budget_atLine s ly .hblank fb').trans (ppuTransition_hblank_visible rfl h)
  exact ⟨fb', by rw [← ppuStep_add 252 204, hdraw, hblank]⟩

/-- VBLANK's request, where the gate is open (60_exceptions.md R733, D10). -/
def State.requestVblank (s : State) : State := { s with ifReg := if gateOpen s then s.ifReg ||| 1#5 else s.ifReg }

/-- The last visible line ends in VBLANK, with its request. -/
theorem ppuStep_lastVisibleLine (s : State) (fb : Memory 2) :
    ∃ fb', ppuStep 456 (s.atLine 143#8 .oamScan fb) = s.requestVblank.atLine 144#8 .vblank fb' := by
  obtain ⟨fb', hdraw⟩ := ppuStep_drawLine s 143#8 fb
  have hblank : ppuStep 204 (s.atLine 143#8 .hblank fb') = s.requestVblank.atLine 144#8 .vblank fb' :=
    (ppuStep_budget_atLine s 143#8 .hblank fb').trans
      (ppuTransition_hblank_last rfl (show ¬ (143#8 + 1#8).toNat < 144 by decide))
  exact ⟨fb', by rw [← ppuStep_add 252 204, hdraw, hblank]⟩

/-- `n` visible lines from the start of line 0. -/
theorem ppuStep_visibleLines (s : State) (fb : Memory 2) {n : Nat} (hn : n ≤ 143) :
    ∃ fb', ppuStep (456 * n) (s.atLine 0#8 .oamScan fb) = s.atLine (BitVec.ofNat 8 n) .oamScan fb' := by
  induction n with
  | zero => exact ⟨fb, ppuStep_zero_atLine s _ _ fb⟩
  | succ n ih =>
    obtain ⟨fb', hlines⟩ := ih (by omega)
    have hnext : BitVec.ofNat 8 n + 1#8 = BitVec.ofNat 8 (n + 1) := (BitVec.ofNat_add ..).symm
    have hlow : (BitVec.ofNat 8 (n + 1)).toNat < 144 := by rw [BitVec.toNat_ofNat]; omega
    obtain ⟨fb'', hline⟩ := ppuStep_visibleLine s (hnext ▸ hlow) fb'
    exact ⟨fb'', by rw [Nat.mul_succ, ← ppuStep_add, hlines, hline, hnext]⟩

/-- The visible part of a frame: 144 lines, then VBLANK. -/
theorem ppuStep_visible (s : State) (fb : Memory 2) :
    ∃ fb', ppuStep 65664 (s.atLine 0#8 .oamScan fb) = s.requestVblank.atLine 144#8 .vblank fb' := by
  obtain ⟨fb', hlines⟩ := ppuStep_visibleLines s fb (Nat.le_refl 143)
  obtain ⟨fb'', hlast⟩ := ppuStep_lastVisibleLine s fb'
  exact ⟨fb'', by rw [← ppuStep_add (456 * 143) 456, hlines, hlast]⟩

/-- A VBLANK line before the last. -/
theorem ppuStep_vblankLine (s : State) {ly : Byte} (h : ¬ (ly + 1#8).toNat > 153) (fb : Memory 2) :
    ppuStep 456 (s.atLine ly .vblank fb) = s.atLine (ly + 1#8) .vblank fb :=
  (ppuStep_budget_atLine s ly .vblank fb).trans ((ppuTransition_vblank rfl).trans (if_neg h))

/-- `n` VBLANK lines from the start of line 144. -/
theorem ppuStep_vblankLines (s : State) (fb : Memory 2) {n : Nat} (hn : n ≤ 9) :
    ppuStep (456 * n) (s.atLine 144#8 .vblank fb) = s.atLine (BitVec.ofNat 8 (144 + n)) .vblank fb := by
  induction n with
  | zero => exact ppuStep_zero_atLine s _ _ fb
  | succ n ih =>
    have hnext : BitVec.ofNat 8 (144 + n) + 1#8 = BitVec.ofNat 8 (144 + (n + 1)) := (BitVec.ofNat_add ..).symm
    have hlow : ¬ (BitVec.ofNat 8 (144 + (n + 1))).toNat > 153 := by rw [BitVec.toNat_ofNat]; omega
    rw [Nat.mul_succ, ← ppuStep_add, ih (by omega), ppuStep_vblankLine s (hnext ▸ hlow), hnext]

/-- VBLANK's ten lines lead back to line 0. -/
theorem ppuStep_vblank (s : State) (fb : Memory 2) :
    ppuStep 4560 (s.atLine 144#8 .vblank fb) = s.atLine 0#8 .oamScan fb := by
  have hlast : ppuStep 456 (s.atLine 153#8 .vblank fb) = s.atLine 0#8 .oamScan fb :=
    (ppuStep_budget_atLine s 153#8 .vblank fb).trans
      ((ppuTransition_vblank rfl).trans (if_pos (show (153#8 + 1#8).toNat > 153 by decide)))
  rw [← ppuStep_add (456 * 9) 456, ppuStep_vblankLines s fb (Nat.le_refl 9)]
  exact hlast

/-- Settles O58: 144 visible lines and then ten of VBLANK. -/
theorem framePeriod : Obligations.FramePeriod := by
  intro s hm hacc hly
  have hstart : s = s.atLine 0#8 .oamScan s.ppu.fb := by rw [State.atLine, ← hm, ← hly, ← hacc]
  obtain ⟨fb, hvisible⟩ := ppuStep_visible s s.ppu.fb
  rw [← hstart] at hvisible
  have hframe : ppuStep 70224 s = s.requestVblank.atLine 0#8 .oamScan fb := by
    rw [← ppuStep_add 65664 4560, hvisible, ppuStep_vblank]
  rw [hvisible, hframe]
  exact ⟨⟨rfl, rfl, rfl⟩, hstart.symm, rfl⟩

/-! ### A rendered row -/

/-- A bit of a byte, by division. -/
theorem bitValue_getLsbD (v : Byte) (b : Nat) : pixelShade.bitValue (v.getLsbD b) = v.toNat / 2 ^ b % 2 := by
  rw [← Nat.toNat_testBit, BitVec.getLsbD]
  cases v.toNat.testBit b <;> rfl

/-- The signed tile numbers count from 0x9000 (60_exceptions.md R736). -/
theorem tileDataBase_eq (p : Ppu) (t : Byte) :
    tileDataBase p t = if p.lcdc.getLsbD 4 then t.toNat * 16
      else if t.toNat < 128 then 0x1000 + t.toNat * 16 else t.toNat * 16 := by
  rw [tileDataBase, BitVec.toInt_eq_toNat_cond]
  split
  · rfl
  · split <;> split <;> omega

/-- A shade is two bits of BGP, by division (10_state.md R122). -/
theorem shade_eq (bgp : Byte) (ci : Nat) : (bgp >>> (2 * ci)).setWidth 2 = BitVec.ofNat 2 (bgp.toNat / 4 ^ ci) := by
  apply BitVec.eq_of_toNat_eq
  rw [BitVec.toNat_setWidth, BitVec.toNat_ofNat, BitVec.toNat_ushiftRight, Nat.shiftRight_eq_div_pow, Nat.pow_mul]

/-- Settles O59: the row's places of the framebuffer are the drawn columns, and each is R736's shade. -/
theorem renderedRow : Obligations.RenderedRow := by
  refine fun s line _ => ⟨fun x y hx _ => ?_, rfl, rfl⟩
  rw [framePixel, renderScanline_ppu_fb, read_renderColumns]
  refine eq_ite (fun h => ?row) (fun h => ?other)
  case other => rw [if_neg (by omega)]; rfl
  case row =>
    rw [if_pos (by omega), show 256 * y + x - 256 * line = x by omega, pixelShade, shade_eq, bitValue_getLsbD,
      bitValue_getLsbD, tileDataBase_eq]
    rfl

end Sys2Proof.Machine
end

section
/-! PROOFS. The joypad and the host's events: P1, press and release (O60), and that every event keeps the invariant
(O15). -/

namespace Sys2Proof.Machine

/-! ### Buttons and nibbles -/

/-- A button is known by its group and its bit (60_exceptions.md R751). -/
theorem Button.eq_iff (x y : Button) : x = y ↔ x.isDirection = y.isDirection ∧ x.bit = y.bit := by
  cases x <;> cases y <;> decide

theorem Button.bit_lt (x : Button) : x.bit < 4 := by cases x <;> decide

/-- The button is up: its bit is 1 (10_state.md R128). -/
def Joypad.isUp (j : Joypad) (x : Button) : Bool := (j.nibble x).getLsbD x.bit

theorem Joypad.nibble_setNibble (j : Joypad) (btn x : Button) (v : BitVec 4) :
    (j.setNibble btn v).nibble x = if x.isDirection = btn.isDirection then v else j.nibble x := by
  unfold setNibble nibble
  cases btn.isDirection <;> cases x.isDirection <;> rfl

@[simp] theorem Joypad.setNibble_select (j : Joypad) (btn : Button) (v : BitVec 4) :
    (j.setNibble btn v).select = j.select := by
  unfold setNibble
  split <;> rfl

/-- Replacing a nibble by one that differs in the button's bit alone changes that button alone. -/
theorem Joypad.isUp_setNibble (j : Joypad) (btn x : Button) {v : BitVec 4} {b : Bool}
    (hv : ∀ i < 4, v.getLsbD i = if i = btn.bit then b else (j.nibble btn).getLsbD i) :
    (j.setNibble btn v).isUp x = if x = btn then b else j.isUp x := by
  simp only [isUp, nibble_setNibble, Button.eq_iff x btn]
  by_cases hg : x.isDirection = btn.isDirection
  · have hn : j.nibble x = j.nibble btn := by rw [nibble, nibble, hg]
    simp only [hg, true_and, if_true, hv _ x.bit_lt, hn]
  · simp only [hg, false_and, if_false]

theorem one_shiftLeft_getLsbD {i : Nat} (hi : i < 4) (b : Nat) : (1#4 <<< b).getLsbD i = decide (i = b) := by
  rw [show 1#4 <<< b = BitVec.twoPow 4 b from rfl, BitVec.getLsbD_twoPow]
  rw [← Bool.decide_and, decide_eq_decide]
  omega

/-! ### Press and release -/

theorem press_joypad (btn : Button) (s : State) : (press btn s).joypad =
    s.joypad.setNibble btn (s.joypad.nibble btn &&& ~~~(1#4 <<< btn.bit)) := by
  unfold press
  dsimp only
  split <;> rfl

theorem press_ifReg (btn : Button) (s : State) : (press btn s).ifReg =
    if s.joypad.isUp btn && s.joypad.selected btn then s.ifReg ||| 0b10000#5 else s.ifReg := by
  unfold press Joypad.isUp
  dsimp only
  split <;> rfl

theorem release_joypad (btn : Button) (s : State) : (release btn s).joypad =
    s.joypad.setNibble btn (s.joypad.nibble btn ||| 1#4 <<< btn.bit) := rfl

theorem press_isUp (btn x : Button) (s : State) :
    (press btn s).joypad.isUp x = if x = btn then false else s.joypad.isUp x := by
  rw [press_joypad]
  refine Joypad.isUp_setNibble _ btn x fun i hi => ?_
  rw [BitVec.getLsbD_and, BitVec.getLsbD_not, one_shiftLeft_getLsbD hi]
  by_cases h : i = btn.bit <;> simp [h, hi]

theorem release_isUp (btn x : Button) (s : State) :
    (release btn s).joypad.isUp x = if x = btn then true else s.joypad.isUp x := by
  rw [release_joypad]
  refine Joypad.isUp_setNibble _ btn x fun i hi => ?_
  rw [BitVec.getLsbD_or, one_shiftLeft_getLsbD hi]
  by_cases h : i = btn.bit <;> simp [h]

/-- P1 in one formula: a group that is not selected gives all ones to the AND (60_exceptions.md R750, D29). -/
theorem p1Read_eq (j : Joypad) : p1Read j =
    0xC0#8 ||| j.select ||| BitVec.setWidth 8 ((if j.select.getLsbD 4 then 0xF#4 else j.dirNibble) &&&
      (if j.select.getLsbD 5 then 0xF#4 else j.actNibble)) := by
  have hones (v : BitVec 4) : 0xF#4 &&& v = v := BitVec.allOnes_and
  have hones' (v : BitVec 4) : v &&& 0xF#4 = v := BitVec.and_allOnes
  unfold p1Read
  cases j.select.getLsbD 4 <;> cases j.select.getLsbD 5 <;>
    simp only [hones, hones', if_true, if_false, Bool.false_eq_true]

/-- Settles O60: each button's bit is its place in its nibble, and what is left is what a press and a release keep. -/
theorem joypadRule : Obligations.JoypadRule := by
  refine ⟨p1Read_eq, ?_⟩
  intro s btn other up selected
  have hup (t : State) (x : Button) : up t x = t.joypad.isUp x := by cases x <;> rfl
  have hsel : selected = s.joypad.selected btn := by cases btn <;> rfl
  simp only [hup, hsel]
  refine ⟨press_isUp btn other s, release_isUp btn other s, press_ifReg btn s, ?_, ?_, ?_, rfl⟩
  · rw [press_joypad, Joypad.setNibble_select]
  · rw [release_joypad, Joypad.setNibble_select]
  · simp

/-! ### The invariant -/

/-- The invariant looks at the arrays, the timer, the PPU and P1's select bits alone. -/
theorem inv_congr {s t : State} (ha : t.arrays = s.arrays) (ht : t.timer = s.timer) (hp : t.ppu = s.ppu)
    (hj : t.joypad.select = s.joypad.select) (h : s.Inv) : t.Inv := by
  obtain ⟨hmem, htimer, hppu, hres, hrows⟩ := h
  refine ⟨MemoryCanonical_congr ha (by rw [hp]) hmem, ?_, ?_, ?_, HiddenRowsBlank_congr (by rw [hp]) hrows⟩
  · rw [State.TimerBounded, ht]; exact htimer
  · rw [State.PpuConsistent, hp]; exact hppu
  · rw [State.ReservedClear, hp, hj]; exact hres

/-- A machine just powered on meets the invariant where its images are canonical: the rest is as at reset. -/
theorem powerOn_inv {boot rom : Memory 8} {n : Nat} (hb : Memory.wf 0x100 boot = true) (hr : Memory.wf n rom = true)
    (k : MbcKind) (p : Params) : (State.powerOn boot rom n k p).Inv :=
  ⟨powerOn_canonical _ _ _ _ _ hb hr, resetMeetsTheInvariant.2⟩

/-- So does the state of either launch mode (70_reset_and_hazards.md R800, R802). -/
theorem launchState_inv {boot rom : Memory 8} {n : Nat} (hb : Memory.wf 0x100 boot = true)
    (hr : Memory.wf n rom = true) (k : MbcKind) (p : Params) : (launchState boot rom n k p).Inv := by
  unfold launchState
  split
  · exact powerOn_inv hb hr k p
  · exact inv_congr rfl rfl rfl rfl (powerOn_inv hb hr k p)

/-- Settles O15: a press and a release touch none of what the invariant looks at; a reset is a launch with the same
images. -/
theorem hostEventsKeepTheInvariant : Obligations.HostEventsKeepTheInvariant := by
  intro e s h
  cases e with
  | press btn =>
    exact inv_congr (press_arrays btn s) (press_timer btn s) (press_ppu btn s)
      (by rw [HostEvent.apply, press_joypad, Joypad.setNibble_select]) h
  | release btn =>
    exact inv_congr (s := s) rfl rfl rfl (Joypad.setNibble_select _ btn _) h
  | reset =>
    obtain ⟨⟨hboot, hrom, -⟩, -⟩ := h
    exact launchState_inv hboot hrom _ _

end Sys2Proof.Machine
end

section
/-! PROOFS. Launching: the premises of R801 in their order, and what a launch that meets them starts (O16). -/

namespace Sys2Proof.Machine

/-! ### The premises of a launch -/

/-- No load has failed where the cartridge image is there and the boot ROM is not a failed one (R801(d)). -/
theorem loadFailed_eq_false {i : LaunchInput} {rom : List Byte} (hrom : i.rom = some rom)
    (hboot : i.bootRom ≠ .failed) : loadFailed i = false := by
  simp [loadFailed, hrom, hboot]

/-- What is asked once no load has failed (70_reset_and_hazards.md R801(a) to (c)). -/
theorem launch_of_loaded {i : LaunchInput} {rom : List Byte} (hrom : i.rom = some rom) (hboot : i.bootRom ≠ .failed) :
    launch i =
      if rom.length % 0x4000 ≠ 0 ∨ rom.length < 0x8000 then .refused .romLength
      else if (rom.getD 0x147 0#8).toNat > 3 then .refused .unsupportedMbc
      else if i.params.launch = .powerOn ∧ i.bootRom.bytes.length ≠ 256 then .refused .bootRomLength
      else .next (launched rom (if (rom.getD 0x147 0#8).toNat = 0 then .noMbc
        else if i.params.multicart then .mbc1Multicart else .mbc1) i) := by
  simp only [launch, loadFailed_eq_false hrom hboot, hrom, Option.getD_some, mbcKindOf_eq, Bool.false_eq_true, if_false]
  by_cases htype : (rom.getD 0x147 0#8).toNat > 3
  · simp only [if_pos htype]
  · simp only [if_neg htype]

/-! ### What a launch starts -/

/-- The two launch modes, as a choice between R800's state and R802's. -/
theorem launchState_eq (boot rom : Memory 8) (n : Nat) (k : MbcKind) (p : Params) :
    launchState boot rom n k p =
      if p.launch = .powerOn then State.powerOn boot rom n k p else postBoot (State.powerOn boot rom n k p) := by
  unfold launchState
  cases p.launch <;> rfl

/-- A launch starts at 0x0000 under POWER_ON and at 0x0100 under POST_BOOT (70_reset_and_hazards.md R800, R802). -/
theorem launchState_pc (boot rom : Memory 8) (n : Nat) (k : MbcKind) (p : Params) :
    (launchState boot rom n k p).cpu.pc = if p.launch = .powerOn then 0#16 else 0x0100#16 := by
  unfold launchState
  cases p.launch <;> rfl

/-- The boot ROM is mapped under POWER_ON alone (70_reset_and_hazards.md R800, R802). -/
theorem launchState_bootEnabled (boot rom : Memory 8) (n : Nat) (k : MbcKind) (p : Params) :
    (launchState boot rom n k p).bootEnabled = decide (p.launch = .powerOn) := by
  unfold launchState
  cases p.launch <;> rfl

/-- What a launch starts meets the invariant: both its images are listed canonically. -/
theorem launched_inv (rom : List Byte) (kind : MbcKind) (i : LaunchInput) : (launched rom kind i).Inv :=
  launchState_inv (Memory.wf_ofList _ _ (List.length_take_le _ _)) (Memory.wf_ofList _ _ (Nat.le_refl _)) kind i.params

/-- Settles O16: a launch asks the premises in this order, and what it starts is a launch state. -/
theorem launchPremises : Obligations.LaunchPremises := by
  intro i
  cases hrom : i.rom with
  | none => exact launch_loadFailed (by simp [loadFailed, hrom])
  | some rom =>
    dsimp -zeta only
    intro boot
    have hbytes : boot = i.bootRom.bytes := by unfold boot; cases i.bootRom <;> rfl
    by_cases hfailed : i.bootRom = .failed
    · rw [if_pos hfailed]
      exact launch_loadFailed (by simp [loadFailed, hfailed])
    rw [if_neg hfailed]
    have hlaunch := launch_of_loaded hrom hfailed
    rw [← hbytes] at hlaunch
    by_cases hlength : rom.length % 0x4000 ≠ 0 ∨ rom.length < 0x8000
    · rw [if_pos hlength] at hlaunch ⊢; exact hlaunch
    rw [if_neg hlength] at hlaunch ⊢
    by_cases htype : (rom.getD 0x147 0#8).toNat > 3
    · rw [if_pos htype] at hlaunch ⊢; exact hlaunch
    rw [if_neg htype] at hlaunch ⊢
    by_cases hcount : i.params.launch = .powerOn ∧ boot.length ≠ 256
    · rw [if_pos hcount] at hlaunch ⊢; exact hlaunch
    rw [if_neg hcount] at hlaunch ⊢
    intro kind
    refine ⟨Memory.ofList (i.bootRom.bytes.take 256), Memory.ofList rom, ?_⟩
    intro fresh s
    have hs : s = launched rom kind i := (launchState_eq _ _ _ _ _).symm
    obtain ⟨harrays, -, hmbc, hparams⟩ := launchState_keeps (Memory.ofList (i.bootRom.bytes.take 256))
      (Memory.ofList rom) rom.length kind i.params
    rw [hs, hbytes]
    exact ⟨hlaunch, launched_inv rom kind i, hparams, congrArg Arrays.romLen harrays, congrArg Mbc.kind hmbc,
      launched_rom rom kind i, launched_bootrom rom kind i, launchState_pc _ _ _ _ _,
      launchState_bootEnabled _ _ _ _ _⟩

end Sys2Proof.Machine
end
